-- ==== Sys2Proof/Word.lean ====
section
/-! DEFINITION. The word types of the block: 32-bit registers and command words (10_state.md R25,
30_encoding.md R100), 8-bit buffer cells and field elements (10_state.md R40 to R51), and 14-bit
offsets into the 0x4000-byte host window (20_memory.md R70). -/

namespace Sys2Proof

/-- A register value or a command word: 32 bits (00_scope.md R7). -/
abbrev Word := BitVec 32

/-- A buffer byte, a codeword, a grid cell or an element of GF(2^8). -/
abbrev Byte := BitVec 8

/-- An offset from BASE into the host window 0x0000..0x3FFF (20_memory.md R70). The block decodes
no address outside the window, so no other offset exists. -/
abbrev Offset := BitVec 14

end Sys2Proof
end

