-- ==== Sys2Proof/Syntax.lean ====
section
/-! DEFINITION. The command set as syntax: one constructor for each of the 20 rows of
30_encoding.md R103 (spec/opcode_table.json). Field elements and the two fields that mirror register
fields (the level of CONFIG.ECL, the mask of RESOLVED.MASK) have those fields' types; exponents,
indexes, counts and version numbers are natural numbers, whose field widths `Instr.wellFormed`
checks (R101, R102). -/

namespace Sys2Proof

/-- A command of 30_encoding.md R103, with its immediate operands (R101, R102). -/
inductive Instr where
  /-- NOP (R130). -/
  | nop
  /-- GFMUL a, b (R131). -/
  | gfmul (a b : Byte)
  /-- GFPOW a, e (R132): the exponent is a natural number of 16 bits. -/
  | gfpow (a : Byte) (e : Nat)
  /-- GFEXP i (R133): an index 0..511 of the exponent table. -/
  | gfexp (i : Nat)
  /-- GFLOG a (R134). -/
  | gflog (a : Byte)
  /-- SELECT (R161). -/
  | select
  /-- PACK (R162). -/
  | pack
  /-- RSGEN ec (R184): a parity-codeword count of 6 bits. -/
  | rsgen (ec : Nat)
  /-- RSENC len, ec (R185): a block length of 8 bits and a parity-codeword count of 6 bits. -/
  | rsenc (len ec : Nat)
  /-- ECENC (R186). -/
  | ecenc
  /-- BUILDSTRUCT (R213). -/
  | buildstruct
  /-- PLACEDATA (R214). -/
  | placedata
  /-- APPLYMASK m (R240). -/
  | applymask (m : BitVec 3)
  /-- SCORE (R241). -/
  | score
  /-- SELECTMASK (R242). -/
  | selectmask
  /-- FMTBITS l, m (R267): the level index of CONFIG.ECL and a mask id. -/
  | fmtbits (l : BitVec 2) (m : BitVec 3)
  /-- VERBITS v (R268): a version number of 6 bits. -/
  | verbits (v : Nat)
  /-- WRITEFMT (R266). -/
  | writefmt
  /-- WRITEVER (R265). -/
  | writever
  /-- ENCODE (R281). -/
  | encode
deriving DecidableEq, Repr

end Sys2Proof
end

