-- ==== Sys2Proof/WellFormed.lean ====
section
/-! DEFINITION. When a command's operands fit the fields of its format (30_encoding.md R101, R102).
R106: "An assembler refuses any operand that does not fit its field." -/

namespace Sys2Proof

/-- Every operand that is held as a natural number fits its field of R101: E is 16 bits, I is 9,
EC is 6, LEN is 8 and V is 6. The other operands fit by their types. -/
def Instr.wellFormed : Instr → Bool
  | .nop => true
  | .gfmul _ _ => true
  | .gfpow _ e => decide (e < 2 ^ 16)
  | .gfexp i => decide (i < 2 ^ 9)
  | .gflog _ => true
  | .select => true
  | .pack => true
  | .rsgen ec => decide (ec < 2 ^ 6)
  | .rsenc len ec => decide (len < 2 ^ 8) && decide (ec < 2 ^ 6)
  | .ecenc => true
  | .buildstruct => true
  | .placedata => true
  | .applymask _ => true
  | .score => true
  | .selectmask => true
  | .fmtbits _ _ => true
  | .verbits v => decide (v < 2 ^ 6)
  | .writefmt => true
  | .writever => true
  | .encode => true

end Sys2Proof
end

