-- ==== Sys2Proof/Decode.lean ====
section
/-! DEFINITION. Command decoding and encoding, from the tables of 30_encoding.md: the formats of R101,
the opcode map of R103, the illegal words of R104 and the words of R106. -/

namespace Sys2Proof

/-- Why a word is illegal (R104: "an opcode outside the 20 listed, and a listed opcode with a
reserved bit set"). -/
inductive Reject where
  | unknownOpcode (opc : Nat)
  | reservedBitSet (mnemonic : String)
deriving DecidableEq, Repr

/-- The operand formats of R101. -/
inductive Format where
  | n | ab | ae | i9 | a8 | ec | lec | m | lm | v
deriving DecidableEq, Repr

/-- The bits of a format that must equal the match value (R103: "the opcode and all reserved bits"). -/
def Format.mask : Format → Word
  | .n => 0xFFFFFFFF
  | .ab => 0xFFFF0000
  | .ae => 0xFF000000
  | .i9 => 0xFFFFFE00
  | .a8 => 0xFFFFFF00
  | .ec => 0xFFFFFFC0
  | .lec => 0xFFFF00C0
  | .m => 0xFFFFFFF8
  | .lm => 0xFFFFFFE0
  | .v => 0xFFFFFFC0

/-- `word[hi:lo]` as an unsigned number (R9, R102: no field is sign-extended, scaled or shifted). -/
def field (w : Word) (hi lo : Nat) : Nat := w.toNat / 2 ^ lo % 2 ^ (hi + 1 - lo)

/-- The opcode, bits [31:24] (R100). -/
def opcodeOf (w : Word) : Nat := field w 31 24

/-- One row of the opcode map (R103), with the assembly of its operands (R101, R102). -/
structure OpRow where
  opc : Nat
  mnemonic : String
  format : Format
  /-- "The match value is the word with its operand fields at zero." -/
  matchWord : Word
  build : Word → Instr

/-- R103, the rows with opcodes 0x00..0x22. -/
def opcodeRowsLow : List OpRow :=
  [ ⟨0x00, "NOP", .n, 0x00000000, fun _ => .nop⟩,
    ⟨0x01, "GFMUL", .ab, 0x01000000,
      fun w => .gfmul (BitVec.ofNat 8 (field w 15 8)) (BitVec.ofNat 8 (field w 7 0))⟩,
    ⟨0x02, "GFPOW", .ae, 0x02000000,
      fun w => .gfpow (BitVec.ofNat 8 (field w 23 16)) (field w 15 0)⟩,
    ⟨0x03, "GFEXP", .i9, 0x03000000, fun w => .gfexp (field w 8 0)⟩,
    ⟨0x04, "GFLOG", .a8, 0x04000000, fun w => .gflog (BitVec.ofNat 8 (field w 7 0))⟩,
    ⟨0x10, "SELECT", .n, 0x10000000, fun _ => .select⟩,
    ⟨0x11, "PACK", .n, 0x11000000, fun _ => .pack⟩,
    ⟨0x20, "RSGEN", .ec, 0x20000000, fun w => .rsgen (field w 5 0)⟩,
    ⟨0x21, "RSENC", .lec, 0x21000000, fun w => .rsenc (field w 15 8) (field w 5 0)⟩,
    ⟨0x22, "ECENC", .n, 0x22000000, fun _ => .ecenc⟩ ]

/-- R103, the rows with opcodes 0x30..0x60. -/
def opcodeRowsHigh : List OpRow :=
  [ ⟨0x30, "BUILDSTRUCT", .n, 0x30000000, fun _ => .buildstruct⟩,
    ⟨0x31, "PLACEDATA", .n, 0x31000000, fun _ => .placedata⟩,
    ⟨0x40, "APPLYMASK", .m, 0x40000000, fun w => .applymask (BitVec.ofNat 3 (field w 2 0))⟩,
    ⟨0x41, "SCORE", .n, 0x41000000, fun _ => .score⟩,
    ⟨0x42, "SELECTMASK", .n, 0x42000000, fun _ => .selectmask⟩,
    ⟨0x50, "FMTBITS", .lm, 0x50000000,
      fun w => .fmtbits (BitVec.ofNat 2 (field w 4 3)) (BitVec.ofNat 3 (field w 2 0))⟩,
    ⟨0x51, "VERBITS", .v, 0x51000000, fun w => .verbits (field w 5 0)⟩,
    ⟨0x52, "WRITEFMT", .n, 0x52000000, fun _ => .writefmt⟩,
    ⟨0x53, "WRITEVER", .n, 0x53000000, fun _ => .writever⟩,
    ⟨0x60, "ENCODE", .n, 0x60000000, fun _ => .encode⟩ ]

/-- A command's mnemonic (R103). -/
def Instr.mnemonic : Instr → String
  | .nop => "NOP"
  | .gfmul _ _ => "GFMUL"
  | .gfpow _ _ => "GFPOW"
  | .gfexp _ => "GFEXP"
  | .gflog _ => "GFLOG"
  | .select => "SELECT"
  | .pack => "PACK"
  | .rsgen _ => "RSGEN"
  | .rsenc _ _ => "RSENC"
  | .ecenc => "ECENC"
  | .buildstruct => "BUILDSTRUCT"
  | .placedata => "PLACEDATA"
  | .applymask _ => "APPLYMASK"
  | .score => "SCORE"
  | .selectmask => "SELECTMASK"
  | .fmtbits _ _ => "FMTBITS"
  | .verbits _ => "VERBITS"
  | .writefmt => "WRITEFMT"
  | .writever => "WRITEVER"
  | .encode => "ENCODE"

/-- The opcode map of R103: "Each command has exactly one row." -/
def opcodeTable : List OpRow := opcodeRowsLow ++ opcodeRowsHigh

/-- `(w & mask) == match` (R103). -/
def OpRow.hit (r : OpRow) (w : Word) : Bool := (w &&& r.format.mask) == r.matchWord

/-- The decoder (R100, R103, R104): the row is found by the opcode in bits [31:24], and the word must
then have the row's match value under its mask. Total on every word. -/
def decode (w : Word) : Except Reject Instr :=
  match opcodeTable.find? (fun r => r.opc == opcodeOf w) with
  | none => .error (.unknownOpcode (opcodeOf w))
  | some r => if r.hit w then .ok (r.build w) else .error (.reservedBitSet r.mnemonic)

/-- The word of a command (R106's column "word"); for an ill-formed command the operands are cut to
32 bits, and no assembler emits such a word. -/
def encode : Instr → Word
  | .nop => 0x00000000
  | .gfmul a b => 0x01000000 ||| (a.setWidth 32 <<< 8) ||| b.setWidth 32
  | .gfpow a e => 0x02000000 ||| (a.setWidth 32 <<< 16) ||| BitVec.ofNat 32 e
  | .gfexp i => 0x03000000 ||| BitVec.ofNat 32 i
  | .gflog a => 0x04000000 ||| a.setWidth 32
  | .select => 0x10000000
  | .pack => 0x11000000
  | .rsgen ec => 0x20000000 ||| BitVec.ofNat 32 ec
  | .rsenc len ec => 0x21000000 ||| (BitVec.ofNat 32 len <<< 8) ||| BitVec.ofNat 32 ec
  | .ecenc => 0x22000000
  | .buildstruct => 0x30000000
  | .placedata => 0x31000000
  | .applymask m => 0x40000000 ||| m.setWidth 32
  | .score => 0x41000000
  | .selectmask => 0x42000000
  | .fmtbits l m => 0x50000000 ||| (l.setWidth 32 <<< 3) ||| m.setWidth 32
  | .verbits v => 0x51000000 ||| BitVec.ofNat 32 v
  | .writefmt => 0x52000000
  | .writever => 0x53000000
  | .encode => 0x60000000

/-- The command word made of the low `nbits` bits of `w`, the bits above them 0. -/
def tableWord (nbits w : Nat) : Word := BitVec.ofNat 32 (w % 2 ^ nbits)

/-- The command the decoder reads from an `nbits`-bit word of the opcode table. Every command is one
32-bit word (R100), so a longer one is no command. -/
def decodeTableWord (nbits w : Nat) : Option Instr :=
  if nbits ≤ 32 then (decode (tableWord nbits w)).toOption else none

end Sys2Proof
end

