-- ==== Sys2Proof/Config.lean ====
section
/-! DEFINITION. What is fixed for one instance of the block (00_scope.md R7) and what the spec leaves
open (R8): BASE, BUF_INIT and the unspecified reads of 70_reset_and_hazards.md R352. The open values
are opaque constants without a body, so nothing can be proved of a particular value.
CMD_LATENCY, the third parameter of R8, is plain data in the state (`State.cmdLatency`). -/

namespace Sys2Proof

/-- BUF_INIT (R8, R340): what buffer byte `off` holds after reset number `epoch`, before anything
writes it. Free value (log 1, 2). -/
opaque Config.bufInit (epoch off : Nat) : Byte

/-- The value of the `k`-th unspecified read while PHASE = BUSY (R352: "Each such read is a fresh
draw"). Free value (log 3). -/
opaque Config.busyRead (k : Nat) : Word

/-- BASE / 0x4000 (R8: BASE "is aligned to 0x4000"). Free value (log 8). -/
opaque Config.baseIndex : Nat

/-- The window's size in bytes (R7). -/
def Config.windowSize : Nat := 0x4000

/-- BASE (R8, R70): the window's platform address, aligned by construction. -/
def Config.base : Nat := Config.windowSize * Config.baseIndex

/-- The window offset of a platform address. `none`: "The block decodes no address outside the
window" (20_memory.md R70). -/
def Config.windowOffset (addr : Nat) : Option Offset :=
  if Config.base ≤ addr ∧ addr < Config.base + Config.windowSize then
    some (BitVec.ofNat 14 (addr - Config.base))
  else none

/-- The value the ID register always reads, ASCII "QRK1" (10_state.md R26). -/
def Config.idValue : Word := 0x51524B31

/-- The TEXT buffer's capacity (R7). -/
def Config.textCapacity : Nat := 1024

/-- The largest parity count of the single-block Reed-Solomon commands (R7). -/
def Config.maxEc : Nat := 30

/-- The largest length of a Reed-Solomon code word, data and parity together (R7). -/
def Config.maxCodeword : Nat := 255

end Sys2Proof
end

