-- ==== Sys2Proof/Machine/State.lean ====
section
/-! DEFINITION. The block's state (10_state.md R20), the two stop types, and the state after reset
(70_reset_and_hazards.md R341). All of it is plain data. -/

namespace Sys2Proof.Machine

/-- The engine phase (10_state.md R21). `left` is the model's own: the cycles that remain of
CMD_LATENCY (R356); at 0 the command completes in the next step (log 4, 5). -/
inductive Phase where
  | idle
  | busy (left : Nat)
deriving DecidableEq, Repr

/-- CONFIG (10_state.md R27). Reserved bits read 0 and ignore writes, so they are no state. -/
structure ConfigReg where
  ecl : BitVec 2
  vreq : BitVec 4
  mreq : BitVec 4
  modeReq : BitVec 2
  ie : Bool
deriving DecidableEq, Repr

/-- STATUS (10_state.md R30) without BUSY, which is a view of PHASE (R21). -/
structure StatusReg where
  done : Bool
  err : Bool
  multi : Bool
  errCode : BitVec 8
  errMode : BitVec 2
  errEcl : BitVec 2
deriving DecidableEq, Repr

/-- RESOLVED (10_state.md R32). -/
structure ResolvedReg where
  ver : BitVec 4
  mode : BitVec 2
  mask : BitVec 3
deriving DecidableEq, Repr

/-- The width of a host access: 1 or 4 bytes (20_memory.md R71, R72). -/
inductive Width where
  | byte
  | word
deriving DecidableEq, Repr

/-- One cycle of the host: an access, one poll of WAIT, no access, or the reset input. -/
inductive HostOp where
  /-- MemRead (20_memory.md R71). -/
  | read (off : Offset) (w : Width)
  /-- MemWrite (20_memory.md R72); a 1-byte write stores v[7:0]. -/
  | write (off : Offset) (w : Width) (v : Word)
  /-- WAIT (30_encoding.md R107): read STATUS, and again in the next cycle until BUSY reads 0. -/
  | wait
  /-- A cycle without an access (R359: "nothing until IRQ"). -/
  | idle
  /-- The reset input is asserted (R340). -/
  | reset
deriving DecidableEq, Repr

/-- The buffers' memory: the bytes written since reset, as (window offset, byte) pairs with strictly
rising offsets. An unlisted offset holds its BUF_INIT draw (log 1). -/
abbrev Memory := List Host.Cell

/-- The state of the block and, after the blank line, the model's own fields (INVENTORY.md, State). -/
structure State where
  /-- PHASE (R21). -/
  phase : Phase
  /-- CONFIG (R27). -/
  config : ConfigReg
  /-- TEXTLEN.LEN (R28). -/
  textLen : BitVec 16
  /-- CMD (R29), the command in flight while BUSY. -/
  cmd : Word
  /-- STATUS (R30). -/
  status : StatusReg
  /-- RESULT (R31). -/
  result : Word
  /-- RESOLVED (R32). -/
  resolved : ResolvedReg
  /-- BITLEN[15:0] (R35). -/
  bitLen : BitVec 16
  /-- FORMAT[14:0] (R36). -/
  format : BitVec 15
  /-- VERWORD[17:0] (R36). -/
  verWord : BitVec 18
  /-- PEN0..PEN7 (R37). -/
  pen : Vector Word 8
  /-- SCORE1..SCORE4 (R38), component N1 first. -/
  score : Vector Word 4
  /-- TEXT, DATACW, FINALCW, RSBUF, PARBUF, GENBUF, GRID, MASKMAP (R40 to R47), by offset. -/
  mem : Memory

  /-- Model's own: which BUF_INIT draw is in force (log 2). -/
  bufEpoch : Nat
  /-- Model's own: how many unspecified reads were drawn (log 3). -/
  busyDraws : Nat
  /-- Model's own: the latencies of the commands still to be accepted; 0 when it runs out (log 4). -/
  cmdLatency : List Nat
  /-- Model's own: what the host does in the coming cycles, first one first (log 6). -/
  hostOps : List HostOp
  /-- Model's own: what the last host read returned (log 7). -/
  reply : Option Word
deriving DecidableEq, Repr

/-- No step of this hardware stops with a fault: every error of 60_exceptions.md R300 is recorded in
STATUS and the block goes on (R303, R306). So the type is empty (log 20). -/
inductive Fault where
deriving DecidableEq, Repr

/-- Why the model has no meaning for an instruction. -/
inductive Refusal where
  /-- Raised only by an arm of `exec` whose instruction has no meaning yet; no arm does. Safe. -/
  | notModelled (mnemonic : String)
deriving DecidableEq, Repr

/-- The state after reset (R341). The buffers are not reset: nothing is listed, so each byte reads as
its BUF_INIT draw (R340). CMD holds the NOP word, which is not executed (R29). -/
def State.reset : State where
  phase := .idle
  config := { ecl := 1, vreq := 0, mreq := 8, modeReq := 0, ie := false }
  textLen := 0
  cmd := 0
  status := { done := false, err := false, multi := false, errCode := 0, errMode := 0, errEcl := 0 }
  result := 0
  resolved := { ver := 0, mode := 0, mask := 0 }
  bitLen := 0
  format := 0
  verWord := 0
  pen := #v[0, 0, 0, 0, 0, 0, 0, 0]
  score := #v[0, 0, 0, 0]
  mem := []
  bufEpoch := 0
  busyDraws := 0
  cmdLatency := []
  hostOps := []
  reply := none

end Sys2Proof.Machine
end

