-- ==== Sys2Proof/Machine/Flags.lean ====
section
/-! DEFINITION. STATUS: its error codes, the recording of an error, the word it reads as, its write-1-to-
clear bits, and the IRQ line (10_state.md R30, R62; 60_exceptions.md R300, R303, R307). -/

namespace Sys2Proof.Machine

/-- The error codes of 60_exceptions.md R300. -/
inductive ErrCode where
  | capacityExceeded
  | illegalCommand
  | badOperand
  | badConfig
  | modeIneligible
  | badCell
  | busyWrite
  | badAccess
deriving DecidableEq, Repr

/-- The value recorded in STATUS.ERRCODE (R300). -/
def ErrCode.code : ErrCode → BitVec 8
  | .capacityExceeded => 0x01
  | .illegalCommand => 0x02
  | .badOperand => 0x03
  | .badConfig => 0x04
  | .modeIneligible => 0x05
  | .badCell => 0x06
  | .busyWrite => 0x07
  | .badAccess => 0x08

/-- An error with what it records (R303): the code, and for CAPACITY_EXCEEDED the attempted mode and
level. -/
structure CmdError where
  code : ErrCode
  mode : BitVec 2
  ecl : BitVec 2
deriving DecidableEq, Repr

/-- "For every error but CAPACITY_EXCEEDED, mode and ecl are 0" (R303). -/
def CmdError.plain (c : ErrCode) : CmdError := ⟨c, 0, 0⟩

/-- CAPACITY_EXCEEDED with the attempted mode and level (R300, R304). -/
def CmdError.capacity (md l : BitVec 2) : CmdError := ⟨.capacityExceeded, md, l⟩

/-- `record(c, md, l)` (R303): the first error is kept, a later one sets MULTI. -/
def StatusReg.record (st : StatusReg) (e : CmdError) : StatusReg :=
  if st.err then { st with multi := true }
  else { st with err := true, errCode := e.code.code, errMode := e.mode, errEcl := e.ecl }

/-- W1C of bit 1: DONE (R30, R307). -/
def StatusReg.clearDone (st : StatusReg) : StatusReg := { st with done := false }

/-- W1C of bit 2: ERR, MULTI, ERRCODE, ERRMODE and ERRECL together (R30, R307). -/
def StatusReg.clearErr (st : StatusReg) : StatusReg :=
  { st with err := false, multi := false, errCode := 0, errMode := 0, errEcl := 0 }

/-- A host write of v to STATUS acts only through its W1C bits (R30). "Writing 0 to either bit has no
effect" (R307). -/
def StatusReg.w1c (st : StatusReg) (v : Word) : StatusReg :=
  let st := if v.getLsbD 1 then st.clearDone else st
  if v.getLsbD 2 then st.clearErr else st

/-- PHASE = BUSY (R21). -/
def Phase.isBusy : Phase → Bool
  | .idle => false
  | .busy _ => true

/-- The 32-bit value STATUS reads as (R30); BUSY reads PHASE (R21). -/
def StatusReg.word (st : StatusReg) (busy : Bool) : Word :=
  (0#12 ++ st.errEcl ++ st.errMode ++ st.errCode ++ 0#4 ++ BitVec.ofBool st.multi ++
    BitVec.ofBool st.err ++ BitVec.ofBool st.done ++ BitVec.ofBool busy : BitVec 32)

/-- The IRQ line, `CONFIG.IE & (STATUS.DONE | STATUS.ERR)` (R62, R308). -/
def State.irq (s : State) : Bool := s.config.ie && (s.status.done || s.status.err)

end Sys2Proof.Machine
end

