-- ==== Sys2Proof/Machine/Tables.lean ====
section
/-! DEFINITION. The read-only tables of 10_state.md §4 other than EXP and LOG (those stand in
Galois.lean): VT, ALIGNPOS, CCW, MODEIND, ALNUM, FMTECL, and the functions of a version that R33, R34
and R61 derive. The spec marks many of these numbers as supplied from general knowledge
(93_implementation_defined.md §2, log 10). -/

namespace Sys2Proof.Machine

/-- The three encoding modes (R2, R151). -/
inductive Mode where
  | numeric
  | alphanumeric
  | byte
deriving DecidableEq, Repr

/-- The mode's code in CONFIG.MODEREQ, RESOLVED.MODE and STATUS.ERRMODE (R27, R30, R32). -/
def Mode.code : Mode → BitVec 2
  | .numeric => 1
  | .alphanumeric => 2
  | .byte => 3

/-- The mode of a code; `none` for 0, which means auto (R27) or none (R32). -/
def Mode.ofCode (c : BitVec 2) : Option Mode :=
  match c.toNat with
  | 1 => some .numeric
  | 2 => some .alphanumeric
  | 3 => some .byte
  | _ => none

/-- One entry of VT (R54): the parity codewords per block, and the groups (block count, data
codewords per block) in table order. -/
structure VtEntry where
  ec : Nat
  groups : List (Nat × Nat)
deriving DecidableEq, Repr

/-- VT (R54) for versions 1 to 5, each row in the level order L, M, Q, H. -/
def vtRowsLow : List (List VtEntry) :=
  [ [⟨7, [(1, 19)]⟩, ⟨10, [(1, 16)]⟩, ⟨13, [(1, 13)]⟩, ⟨17, [(1, 9)]⟩],
    [⟨10, [(1, 34)]⟩, ⟨16, [(1, 28)]⟩, ⟨22, [(1, 22)]⟩, ⟨28, [(1, 16)]⟩],
    [⟨15, [(1, 55)]⟩, ⟨26, [(1, 44)]⟩, ⟨18, [(2, 17)]⟩, ⟨22, [(2, 13)]⟩],
    [⟨20, [(1, 80)]⟩, ⟨18, [(2, 32)]⟩, ⟨26, [(2, 24)]⟩, ⟨16, [(4, 9)]⟩],
    [⟨26, [(1, 108)]⟩, ⟨24, [(2, 43)]⟩, ⟨18, [(2, 15), (2, 16)]⟩, ⟨22, [(2, 11), (2, 12)]⟩] ]

/-- VT (R54) for versions 6 to 10. -/
def vtRowsHigh : List (List VtEntry) :=
  [ [⟨18, [(2, 68)]⟩, ⟨16, [(4, 27)]⟩, ⟨24, [(4, 19)]⟩, ⟨28, [(4, 15)]⟩],
    [⟨20, [(2, 78)]⟩, ⟨18, [(4, 31)]⟩, ⟨18, [(2, 14), (4, 15)]⟩, ⟨26, [(4, 13), (1, 14)]⟩],
    [⟨24, [(2, 97)]⟩, ⟨22, [(2, 38), (2, 39)]⟩, ⟨22, [(4, 18), (2, 19)]⟩,
      ⟨26, [(4, 14), (2, 15)]⟩],
    [⟨30, [(2, 116)]⟩, ⟨22, [(3, 36), (2, 37)]⟩, ⟨20, [(4, 16), (4, 17)]⟩,
      ⟨24, [(4, 12), (4, 13)]⟩],
    [⟨18, [(2, 68), (2, 69)]⟩, ⟨26, [(4, 43), (1, 44)]⟩, ⟨24, [(6, 19), (2, 20)]⟩,
      ⟨28, [(6, 15), (2, 16)]⟩] ]

/-- VT[v][l] (R54) for v in 1..10; an entry without blocks for any other v, which no rule reads. -/
def vt (v : Nat) (l : BitVec 2) : VtEntry :=
  (([] :: (vtRowsLow ++ vtRowsHigh)).getD v []).getD l.toNat ⟨0, []⟩

/-- `1 ≤ v ≤ 10`, the supported versions (R2, R7). -/
def versionOK (v : Nat) : Bool := decide (1 ≤ v) && decide (v ≤ 10)

/-- n(v) = 17 + 4·v, the grid side (R33). -/
def gridSide (v : Nat) : Nat := 17 + 4 * v

/-- NDATA: the sum over groups of count·k (R34). -/
def ndata (v : Nat) (l : BitVec 2) : Nat := ((vt v l).groups.map fun g => g.1 * g.2).sum

/-- NBLOCKS: the sum over groups of count (R34). -/
def nblocks (v : Nat) (l : BitVec 2) : Nat := ((vt v l).groups.map Prod.fst).sum

/-- ECPB (R34). -/
def ecpb (v : Nat) (l : BitVec 2) : Nat := (vt v l).ec

/-- NTOTAL = NDATA + ec·NBLOCKS (R34). -/
def ntotal (v : Nat) (l : BitVec 2) : Nat := ndata v l + ecpb v l * nblocks v l

/-- REM(v): the cells that stay UNDET beyond 8·NTOTAL (R61). -/
def remCells (v : Nat) : Nat := if 2 ≤ v ∧ v ≤ 6 then 7 else 0

/-- ALIGNPOS[v] (R56). -/
def alignPos (v : Nat) : List Nat :=
  ([[], [], [6, 18], [6, 22], [6, 26], [6, 30], [6, 34], [6, 22, 38], [6, 24, 42], [6, 26, 46],
    [6, 28, 50]] : List (List Nat)).getD v []

/-- CCW(v, mode): the width of the character count (R57). The tier above 26 is never reached. -/
def ccw (v : Nat) (md : Mode) : Nat :=
  if v ≤ 9 then
    match md with
    | .numeric => 10
    | .alphanumeric => 9
    | .byte => 8
  else if v ≤ 26 then
    match md with
    | .numeric => 12
    | .alphanumeric => 11
    | .byte => 16
  else
    match md with
    | .numeric => 14
    | .alphanumeric => 13
    | .byte => 16

/-- MODEIND(mode), the 4-bit mode indicator (R58). Kanji's 0b1000 is reserved and never emitted. -/
def modeInd : Mode → Nat
  | .numeric => 0b0001
  | .alphanumeric => 0b0010
  | .byte => 0b0100

/-- ALNUM in index order (R59): '0'..'9', 'A'..'Z', then space and `$%*+-./:`. -/
def alnumTable : List Byte :=
  ((List.range 10).map fun i => BitVec.ofNat 8 (0x30 + i)) ++
  ((List.range 26).map fun i => BitVec.ofNat 8 (0x41 + i)) ++
  [0x20, 0x24, 0x25, 0x2A, 0x2B, 0x2D, 0x2E, 0x2F, 0x3A]

/-- FMTECL(l), the level code of the format information (R60). -/
def fmtEcl (l : BitVec 2) : Nat :=
  match l.toNat with
  | 0 => 0b01
  | 1 => 0b00
  | 2 => 0b11
  | _ => 0b10

end Sys2Proof.Machine
end

