-- ==== Sys2Proof/Machine/Window.lean ====
section
/-! DEFINITION. The address map of the host window (20_memory.md R70, 10_state.md R25): which offset is
which register, which offsets are buffer bytes, and which accesses are legal (R74). -/

namespace Sys2Proof.Machine

/-- The registers of 10_state.md R25. -/
inductive Reg where
  | id | config | textLen | cmd | status | result | resolved | bitLen | format | verWord
  | size | ndata | ntotal | ecpb | nblocks
  | pen (m : Fin 8)
  | score (k : Fin 4)
deriving DecidableEq, Repr

/-- The register at an offset (R25); `none` for a reserved or misaligned offset (R39). -/
def regAt (off : Nat) : Option Reg :=
  match off with
  | 0x000 => some .id
  | 0x004 => some .config
  | 0x008 => some .textLen
  | 0x00C => some .cmd
  | 0x010 => some .status
  | 0x014 => some .result
  | 0x018 => some .resolved
  | 0x01C => some .bitLen
  | 0x020 => some .format
  | 0x024 => some .verWord
  | 0x028 => some .size
  | 0x02C => some .ndata
  | 0x030 => some .ntotal
  | 0x034 => some .ecpb
  | 0x038 => some .nblocks
  | 0x040 => some (.pen 0)
  | 0x044 => some (.pen 1)
  | 0x048 => some (.pen 2)
  | 0x04C => some (.pen 3)
  | 0x050 => some (.pen 4)
  | 0x054 => some (.pen 5)
  | 0x058 => some (.pen 6)
  | 0x05C => some (.pen 7)
  | 0x060 => some (.score 0)
  | 0x064 => some (.score 1)
  | 0x068 => some (.score 2)
  | 0x06C => some (.score 3)
  | _ => none

/-- The registers of access code RO (R25). STATUS, "RO + W1C", takes writes through its W1C bits. -/
def Reg.readOnly : Reg → Bool
  | .config | .textLen | .cmd | .status | .resolved => false
  | .id | .result | .bitLen | .format | .verWord | .size | .ndata | .ntotal | .ecpb | .nblocks
  | .pen _ | .score _ => true

/-- The byte buffers of 10_state.md §3. -/
inductive Buf where
  | text | dataCw | finalCw | rsBuf | parBuf | genBuf | grid | maskMap
deriving DecidableEq, Repr

/-- A buffer's first offset (20_memory.md R70). -/
def Buf.base : Buf → Nat
  | .text => 0x1000
  | .dataCw => 0x1400
  | .finalCw => 0x1600
  | .rsBuf => 0x1800
  | .parBuf => 0x1900
  | .genBuf => 0x1920
  | .grid => 0x2000
  | .maskMap => 0x3000

/-- A buffer's size in bytes (R40 to R47). -/
def Buf.size : Buf → Nat
  | .text => 1024
  | .dataCw => 512
  | .finalCw => 512
  | .rsBuf => 256
  | .parBuf => 32
  | .genBuf => 32
  | .grid => 4096
  | .maskMap => 4096

/-- All buffers, lowest offset first. -/
def Buf.all : List Buf := [.text, .dataCw, .finalCw, .rsBuf, .parBuf, .genBuf, .grid, .maskMap]

/-- The offset lies in the buffer. -/
def Buf.holds (b : Buf) (off : Nat) : Bool := decide (b.base ≤ off) && decide (off < b.base + b.size)

/-- The buffer an offset lies in (R70); `none` for register space and the gap 0x1940..0x1FFF. -/
def bufAt (off : Nat) : Option Buf := Buf.all.find? fun b => b.holds off

/-- The offset is a buffer byte (R70). -/
def inBuffer (off : Nat) : Bool := (bufAt off).isSome

/-- What a legal access reaches. -/
inductive Target where
  | reg (r : Reg)
  | cell (off : Nat)
deriving DecidableEq, Repr

/-- The target is a read-only register. -/
def Target.readOnly : Target → Bool
  | .reg r => r.readOnly
  | .cell _ => false

/-- R74: a 4-byte access at the 4-aligned offset of a defined register, or a 1-byte access inside a
buffer. `none` is an illegal access. -/
def target (off : Offset) : Width → Option Target
  | .word => (regAt off.toNat).map .reg
  | .byte => if inBuffer off.toNat then some (.cell off.toNat) else none

/-- What a legal write reaches (R74). 93_implementation_defined.md, under "Illegal host accesses", counts a
"write to a read-only register" among the BAD_ACCESS faults of R74 and R75 (DEDUCED, log 9). -/
def writable (off : Offset) (w : Width) : Option Target :=
  (target off w).filter fun t => !t.readOnly

end Sys2Proof.Machine
end

