-- ==== Sys2Proof/Machine/Ops.lean ====
section
/-! DEFINITION. The shared operations: the buffers' memory, one named update per part of State, the
successful completion of a command (60_exceptions.md R302), the error entry (R303) and the return from
an error (R307). -/

namespace Sys2Proof.Machine

/-! ### Memory -/

/-- What an unlisted address holds: no written byte. `State.readByte` then answers the BUF_INIT draw
(R340, log 1). -/
def Memory.unlisted (_off : Nat) : Option Byte := none

/-- The byte written at an offset since reset. -/
def Memory.cell (m : Memory) (off : Nat) : Option Byte :=
  match m with
  | [] => Memory.unlisted off
  | c :: rest => if c.1 = off then some c.2 else Memory.cell rest off

/-- The bytes `bs` as cells at `base`, `base + 1`, …. -/
def Memory.run (base : Nat) : List Byte → Memory
  | [] => []
  | b :: bs => (base, b) :: Memory.run (base + 1) bs

/-- The one write: `bs` replaces the bytes from `base` on, and every other byte stays. The cells below
the run, the run, and the cells above it stand in this order, so the form stays canonical. -/
def Memory.write (m : Memory) (base : Nat) (bs : List Byte) : Memory :=
  m.filter (fun c => decide (c.1 < base)) ++ Memory.run base bs ++
    m.filter (fun c => decide (base + bs.length ≤ c.1))

/-- The canonical form: offsets strictly rise, and no entry equals what an unlisted one answers. -/
abbrev Memory.wf (m : Memory) : Prop :=
  m.Pairwise (fun a b => a.1 < b.1) ∧ ∀ c ∈ m, some c.2 ≠ Memory.unlisted c.1

/-- The byte at a buffer offset: what was written there since reset, else its BUF_INIT draw (R340). -/
def State.readByte (s : State) (off : Nat) : Byte :=
  (s.mem.cell off).getD (Config.bufInit s.bufEpoch off)

/-- `len` bytes from `base` on. -/
def State.readBytes (s : State) (base len : Nat) : List Byte :=
  (List.range len).map fun i => s.readByte (base + i)

/-! ### Updates of State, one per part -/

/-- Store bytes from `base` on. -/
def State.writeBytes (s : State) (base : Nat) (bs : List Byte) : State :=
  { s with mem := s.mem.write base bs }

/-- Store single bytes, in order. -/
def State.writeCells (s : State) (cells : List (Nat × Byte)) : State :=
  cells.foldl (fun t c => t.writeBytes c.1 [c.2]) s

def State.setPhase (s : State) (p : Phase) : State := { s with phase := p }
def State.setConfig (s : State) (c : ConfigReg) : State := { s with config := c }
def State.setTextLen (s : State) (n : BitVec 16) : State := { s with textLen := n }
def State.setCmd (s : State) (w : Word) : State := { s with cmd := w }
def State.setStatus (s : State) (st : StatusReg) : State := { s with status := st }
def State.setResult (s : State) (v : Word) : State := { s with result := v }
def State.setResolved (s : State) (r : ResolvedReg) : State := { s with resolved := r }
def State.setBitLen (s : State) (n : BitVec 16) : State := { s with bitLen := n }
def State.setFormat (s : State) (f : BitVec 15) : State := { s with format := f }
def State.setVerWord (s : State) (w : BitVec 18) : State := { s with verWord := w }
def State.setPen (s : State) (p : Vector Word 8) : State := { s with pen := p }
def State.setScore (s : State) (p : Vector Word 4) : State := { s with score := p }
def State.setBusyDraws (s : State) (k : Nat) : State := { s with busyDraws := k }
def State.setCmdLatency (s : State) (l : List Nat) : State := { s with cmdLatency := l }
def State.setHostOps (s : State) (l : List HostOp) : State := { s with hostOps := l }
def State.setReply (s : State) (v : Option Word) : State := { s with reply := v }

/-- RESOLVED.VER and RESOLVED.MODE together, as SELECT and ENCODE write them (R32). -/
def State.setVersionMode (s : State) (v : Nat) (md : Mode) : State :=
  s.setResolved { s.resolved with ver := BitVec.ofNat 4 v, mode := md.code }

/-- RESOLVED.MASK, as SELECTMASK and ENCODE write it (R32). -/
def State.setMask (s : State) (m : BitVec 3) : State := s.setResolved { s.resolved with mask := m }

/-! ### Completion, error entry, error return -/

/-- Successful completion (R302): the command's writes are those of `s`; in the same step DONE is set
and PHASE returns to IDLE. "ERR, MULTI and the error fields are not changed." -/
def complete (s : State) : Host.Outcome State Fault Refusal :=
  .next ((s.setStatus { s.status with done := true }).setPhase .idle)

/-- An error recorded outside a command: the access has no effect but this (R303). -/
def recordError (e : CmdError) (s : State) : State := s.setStatus (s.status.record e)

/-- Error entry of a command (R303): `s` is the state before the command, whose writes are discarded.
STATUS records the error, PHASE returns to IDLE and DONE stays as it is. Nothing is saved elsewhere and
no control is transferred (R306). -/
def raise (e : CmdError) (s : State) : Host.Outcome State Fault Refusal :=
  .next ((recordError e s).setPhase .idle)

/-- The return from an error, and the clearing of DONE: a host write to STATUS (R307). -/
def writeStatus (v : Word) (s : State) : State := s.setStatus (s.status.w1c v)

end Sys2Proof.Machine
end

