-- ==== Sys2Proof/Machine/Operands.lean ====
section
/-! DEFINITION. The operands a command takes from registers and buffers (10_state.md R22, R32, R40 to
R48): the text, the level, the resolved version, byte runs, and the n×n grids. -/

namespace Sys2Proof.Machine

/-- LEN (R28). -/
def State.len (s : State) : Nat := s.textLen.toNat

/-- T = TEXT[0..LEN−1] (R40). -/
def State.text (s : State) : List Byte := s.readBytes Buf.text.base s.len

/-- l = CONFIG.ECL (R27). -/
def State.level (s : State) : BitVec 2 := s.config.ecl

/-- An n×n array of cells, row by row (R46, R47). -/
abbrev Grid := List (List Byte)

/-- Cell (r, c) (R11, R12); 0 outside the grid, which no rule reads. -/
def Grid.at (g : Grid) (r c : Nat) : Byte := (g.getD r []).getD c 0

/-- Cell (r, c) becomes x. -/
def Grid.put (g : Grid) (r c : Nat) (x : Byte) : Grid := g.modify r fun row => row.set c x

/-- Every cell of the grid satisfies p. -/
def Grid.allCells (g : Grid) (p : Byte → Bool) : Bool := g.all fun row => row.all p

/-- The number of cells equal to x. -/
def Grid.countCells (g : Grid) (x : Byte) : Nat := (g.map fun row => row.count x).sum

/-- The n×n cells of a buffer: cell (r, c) is the byte at r·n + c (R46: "a flat row-major buffer"). -/
def State.readGrid (s : State) (b : Buf) (n : Nat) : Grid :=
  (List.range n).map fun r => s.readBytes (b.base + r * n) n

/-- Store the cells of a grid row by row (R46). -/
def State.writeGrid (s : State) (b : Buf) (g : Grid) : State := s.writeBytes b.base g.flatten

/-- The offset of cell (r, c) of GRID for side n (R46). -/
def gridOffset (n r c : Nat) : Nat := Buf.grid.base + (r * n + c)

/-- Cell values (R48). -/
def light : Byte := 0
def dark : Byte := 1
def undet : Byte := 2

/-- The cell is Light or Dark. -/
def isBinary (x : Byte) : Bool := x == light || x == dark

/-- RESOLVED.VER when it is in 1..10 (R32: "otherwise the command raises BAD_CONFIG"). -/
def State.resolvedVersion (s : State) : Option Nat :=
  if versionOK s.resolved.ver.toNat then some s.resolved.ver.toNat else none

/-- Run a stage command on the resolved version, or raise BAD_CONFIG (R300). -/
def withVersion (s : State) (k : Nat → Host.Outcome State Fault Refusal) :
    Host.Outcome State Fault Refusal :=
  match s.resolvedVersion with
  | none => raise (.plain .badConfig) s
  | some v => k v

/-- SIZE (R33). -/
def State.sizeReg (s : State) : Nat :=
  match s.resolvedVersion with
  | none => 0
  | some v => gridSide v

/-- NDATA, NTOTAL, ECPB or NBLOCKS (R34): f at (RESOLVED.VER, CONFIG.ECL), 0 when VER is not 1..10. -/
def State.tableReg (s : State) (f : Nat → BitVec 2 → Nat) : Nat :=
  match s.resolvedVersion with
  | none => 0
  | some v => f v s.level

end Sys2Proof.Machine
end

