-- ==== Sys2Proof/Machine/Matrix.lean ====
section
/-! DEFINITION. Structural and data placement (43_matrix.md), with the commands BUILDSTRUCT and
PLACEDATA. -/

namespace Sys2Proof.Machine

/-! ### The structural phase -/

/-- One call of setU: row, column, value. Coordinates may fall outside the grid. -/
structure SetU where
  r : Int
  c : Int
  x : Byte
deriving DecidableEq, Repr

/-- setU(r, c, x) on a working grid of side n (R200): only an UNDET cell inside the grid changes. -/
def setU (n : Nat) (w : Grid) (u : SetU) : Grid :=
  if 0 ≤ u.r ∧ u.r < n ∧ 0 ≤ u.c ∧ u.c < n then
    w.modify u.r.toNat fun row => row.modify u.c.toNat fun y => if y = undet then u.x else y
  else w

/-- The finders' top-left corners (R202). -/
def finderCorners (n : Nat) : List (Int × Int) := [(0, 0), (0, (n : Int) - 7), ((n : Int) - 7, 0)]

/-- The calls of a k×k square whose top-left cell is (r0, c0), row by row. -/
def square (k : Nat) (r0 c0 : Int) (value : Nat → Nat → Byte) : List SetU :=
  (List.range k).flatMap fun (dr : Nat) =>
    (List.range k).map fun (dc : Nat) => ⟨r0 + (dr : Int), c0 + (dc : Int), value dr dc⟩

/-- The distance of (dr, dc) from the middle (m, m) of a square, in rings. -/
def ring (m dr dc : Nat) : Nat := max ((dr : Int) - m).natAbs ((dc : Int) - m).natAbs

/-- Finder patterns (R202). -/
def finders (n : Nat) : List SetU :=
  (finderCorners n).flatMap fun p =>
    square 7 p.1 p.2 fun dr dc => if ring 3 dr dc = 2 then light else dark

/-- Separators (R203): dr, dc ∈ −1..7 around each finder corner. -/
def separators (n : Nat) : List SetU :=
  (finderCorners n).flatMap fun p => square 9 (p.1 - 1) (p.2 - 1) fun _ _ => light

/-- Timing patterns (R204). -/
def timing (n : Nat) : List SetU :=
  (List.range n).flatMap fun k =>
    let x := if k % 2 = 0 then dark else light
    [⟨6, (k : Int), x⟩, ⟨(k : Int), 6, x⟩]

/-- The finder zones of R205 as (first row, last row, first column, last column). -/
def finderZones (n : Nat) : List (Int × Int × Int × Int) :=
  [(0, 7, 0, 7), (0, 7, (n : Int) - 8, (n : Int) - 1), ((n : Int) - 8, (n : Int) - 1, 0, 7)]

/-- The 5×5 block centred at (r, c) overlaps a zone (R205). -/
def overlaps (r c : Int) (z : Int × Int × Int × Int) : Bool :=
  decide (r - 2 ≤ z.2.1) && decide (z.1 ≤ r + 2) &&
    (decide (c - 2 ≤ z.2.2.2) && decide (z.2.2.1 ≤ c + 2))

/-- The alignment centres that are drawn (R56, R205). -/
def alignCentres (v : Nat) : List (Nat × Nat) :=
  ((alignPos v).flatMap fun r => (alignPos v).map fun c => (r, c)).filter fun p =>
    !(finderZones (gridSide v)).any (overlaps p.1 p.2)

/-- Alignment patterns (R205). -/
def alignment (v : Nat) : List SetU :=
  (alignCentres v).flatMap fun p =>
    square 5 ((p.1 : Int) - 2) ((p.2 : Int) - 2) fun dr dc => if ring 2 dr dc = 1 then light else dark

/-- FA[i] (R206). -/
def fa (i : Nat) : Nat × Nat :=
  if i ≤ 5 then (i, 8)
  else if i = 6 then (7, 8)
  else if i = 7 then (8, 8)
  else if i = 8 then (8, 7)
  else (8, 14 - i)

/-- FB[i] (R206). -/
def fb (n i : Nat) : Nat × Nat := if i ≤ 7 then (8, n - 1 - i) else (n - 15 + i, 8)

/-- VTR[i] (R208). -/
def vtr (n i : Nat) : Nat × Nat := (i / 3, n - 11 + i % 3)

/-- VBL[i] (R208). -/
def vbl (n i : Nat) : Nat × Nat := (n - 11 + i % 3, i / 3)

/-- The 30 format cells with their bit numbers: FA, then FB. -/
def formatCells (n : Nat) : List ((Nat × Nat) × Nat) :=
  ((List.range 15).map fun i => (fa i, i)) ++ ((List.range 15).map fun i => (fb n i, i))

/-- The 36 version cells with their bit numbers: VTR, then VBL. -/
def versionCells (n : Nat) : List ((Nat × Nat) × Nat) :=
  ((List.range 18).map fun i => (vtr n i, i)) ++ ((List.range 18).map fun i => (vbl n i, i))

/-- Reserve cells as provisionally Light (R206, R208). -/
def reserve (cells : List ((Nat × Nat) × Nat)) : List SetU :=
  cells.map fun p => ⟨(p.1.1 : Int), (p.1.2 : Int), light⟩

/-- The dark module (R207). -/
def darkModule (v : Nat) : List SetU := [⟨4 * (v : Int) + 9, 8, dark⟩]

/-- Every setU of the structural phase in the binding order of R201 (R354). -/
def structuralWrites (v : Nat) : List SetU :=
  finders (gridSide v) ++ separators (gridSide v) ++ timing (gridSide v) ++ alignment v ++
    reserve (formatCells (gridSide v)) ++ darkModule v ++
    (if 7 ≤ v then reserve (versionCells (gridSide v)) else [])

/-- An n×n grid of one value. -/
def filled (n : Nat) (x : Byte) : Grid := List.replicate n (List.replicate n x)

/-- The working grid after the structural phase (R201). -/
def buildGrid (v : Nat) : Grid :=
  (structuralWrites v).foldl (setU (gridSide v)) (filled (gridSide v) undet)

/-! ### The data phase -/

/-- The right columns of the pairs of R209, with whether the pair goes upward; `fuel` bounds the rounds
of its loop. -/
def pairColumns : Nat → Nat → Bool → List (Nat × Bool)
  | 0, _, _ => []
  | fuel + 1, right, up =>
    if 1 ≤ right then
      let right := if right = 6 then 5 else right
      (right, up) :: pairColumns fuel (right - 2) (!up)
    else []

/-- The traversal order path(n) (R209). -/
def path (n : Nat) : List (Nat × Nat) :=
  (pairColumns n (n - 1) true).flatMap fun p =>
    (List.range n).flatMap fun s =>
      let r := if p.2 then n - 1 - s else s
      [(r, p.1), (r, p.1 - 1)]

/-- bit(k) of the interleaved stream `fcw` of `total` codewords (R210). -/
def streamBit (fcw : List Byte) (total k : Nat) : Byte :=
  if k < 8 * total then (fcw.getD (k / 8) 0 >>> (7 - k % 8)) &&& 1 else 0

/-- The cells R211 places, in path order: a cell's index in this list is its counter k. -/
def placedCells (g : Grid) (n : Nat) : List (Nat × Nat) :=
  (path n).filter fun p => g.at p.1 p.2 == undet

/-- The grid after placement (R211). -/
def placeGrid (g : Grid) (n : Nat) (fcw : List Byte) (total : Nat) : Grid :=
  (placedCells g n).zipIdx.foldl (fun w p => w.put p.1.1 p.1.2 (streamBit fcw total p.2)) g

/-- MASKMAP after placement (R211): 1 exactly for the cells placed. -/
def placeMap (g : Grid) (n : Nat) : Grid :=
  (placedCells g n).foldl (fun w p => w.put p.1 p.2 1) (filled n 0)

/-! ### Commands -/

/-- BUILDSTRUCT (R213). -/
def execBuildstruct (s : State) : Host.Outcome State Fault Refusal :=
  withVersion s fun v =>
    complete ((s.writeGrid .grid (buildGrid v)).writeGrid .maskMap (filled (gridSide v) 0))

/-- The three grid checks of PLACEDATA (R214): no cell above 2, no UNDET in column 6, and exactly
8·NTOTAL + REM(v) UNDET cells. -/
def placeable (g : Grid) (v : Nat) (l : BitVec 2) : Bool :=
  g.allCells (fun x => decide (x.toNat ≤ 2)) &&
    ((List.range (gridSide v)).all fun r => g.at r 6 != undet) &&
    g.countCells undet == 8 * ntotal v l + remCells v

/-- PLACEDATA (R214). -/
def execPlacedata (s : State) : Host.Outcome State Fault Refusal :=
  withVersion s fun v =>
    let n := gridSide v
    let g := s.readGrid .grid n
    if placeable g v s.level then
      let total := ntotal v s.level
      complete ((s.writeGrid .grid
          (placeGrid g n (s.readBytes Buf.finalCw.base total) total)).writeGrid .maskMap
        (placeMap g n))
    else raise (.plain .badCell) s

end Sys2Proof.Machine
end

