-- ==== Sys2Proof/Machine/Bch.lean ====
section
/-! DEFINITION. Format and version information (45_bch.md), with the commands FMTBITS, VERBITS, WRITEFMT
and WRITEVER. -/

namespace Sys2Proof.Machine

/-- `a mod_GF2 g` (R260, R263): for i from `hi` down to `lo`, the degree of g, XOR g << (i − lo) when bit
i is set. -/
def modGf2 (g hi lo a : Nat) : Nat :=
  (List.range (hi + 1 - lo)).foldl
    (fun r k => if r.testBit (hi - k) then r ^^^ (g <<< (hi - k - lo)) else r) a

/-- fmt(l, m) (R260), 15 bits. -/
def formatWord (l : BitVec 2) (m : BitVec 3) : Nat :=
  let data := (fmtEcl l <<< 3) ||| m.toNat
  ((data <<< 10) ||| modGf2 0x537 14 10 (data <<< 10)) ^^^ 0x5412

/-- ver(v) (R263), 18 bits for a 6-bit v. No constant is XORed into it. -/
def versionWord (v : Nat) : Nat := (v <<< 12) ||| modGf2 0x1F25 17 12 (v <<< 12)

/-- bit_i(w) as a cell value: 1 is Dark (R12, R264). -/
def bitCell (w i : Nat) : Byte := if w.testBit i then dark else light

/-- The offsets and values of a word's bits in GRID (R264), for cells with bit numbers. -/
def bitWrites (n : Nat) (cells : List ((Nat × Nat) × Nat)) (w : Nat) : List (Nat × Byte) :=
  cells.map fun p => (gridOffset n p.1.1 p.1.2, bitCell w p.2)

/-- The same bits put into an n×n grid (R264). -/
def putBits (g : Grid) (cells : List ((Nat × Nat) × Nat)) (w : Nat) : Grid :=
  cells.foldl (fun g p => g.put p.1.1 p.1.2 (bitCell w p.2)) g

/-- The word VERWORD takes (R265): ver(v) for v ≥ 7, else 0. -/
def versionRegWord (v : Nat) : Nat := if 7 ≤ v then versionWord v else 0

/-- The cells the version writer writes (R265): none for v ≤ 6. -/
def versionCellsOf (v : Nat) : List ((Nat × Nat) × Nat) :=
  if 7 ≤ v then versionCells (gridSide v) else []

/-! ### Commands -/

/-- FMTBITS (R267). -/
def execFmtbits (l : BitVec 2) (m : BitVec 3) (s : State) : Host.Outcome State Fault Refusal :=
  complete (s.setResult (BitVec.ofNat 32 (formatWord l m)))

/-- VERBITS (R268). -/
def execVerbits (v : Nat) (s : State) : Host.Outcome State Fault Refusal :=
  complete (s.setResult (BitVec.ofNat 32 (versionWord v)))

/-- WRITEFMT (R266): both copies of fmt(CONFIG.ECL, RESOLVED.MASK). -/
def execWritefmt (s : State) : Host.Outcome State Fault Refusal :=
  withVersion s fun v =>
    let f := formatWord s.level s.resolved.mask
    complete ((s.writeCells (bitWrites (gridSide v) (formatCells (gridSide v)) f)).setFormat
      (BitVec.ofNat 15 f))

/-- WRITEVER (R265). -/
def execWritever (s : State) : Host.Outcome State Fault Refusal :=
  withVersion s fun v =>
    complete ((s.writeCells (bitWrites (gridSide v) (versionCellsOf v) (versionRegWord v))).setVerWord
      (BitVec.ofNat 18 (versionRegWord v)))

end Sys2Proof.Machine
end

