-- ==== Sys2Proof/Machine/Bitstream.lean ====
section
/-! DEFINITION. Mode and version selection and bit-stream assembly (41_bitstream.md), with the commands
SELECT and PACK. -/

namespace Sys2Proof.Machine

/-! ### Mode selection -/

/-- A numeric byte (R150). -/
def isNumeric (b : Byte) : Bool := decide (0x30 ≤ b.toNat) && decide (b.toNat ≤ 0x39)

/-- An alphanumeric byte (R150): one of the 45 bytes of ALNUM. -/
def isAlnum (b : Byte) : Bool := alnumTable.contains b

/-- The ALNUM index of a byte (R59, R158). -/
def alnumIndex (b : Byte) : Nat := alnumTable.idxOf b

/-- numOK(T) (R150). -/
def numOK (t : List Byte) : Bool := t.all isNumeric

/-- alnumOK(T) (R150). -/
def alnumOK (t : List Byte) : Bool := t.all isAlnum

/-- The text is eligible for the mode (R150): every text is for byte mode. -/
def eligible (md : Mode) (t : List Byte) : Bool :=
  match md with
  | .numeric => numOK t
  | .alphanumeric => alnumOK t
  | .byte => true

/-- autoMode(T) (R151). -/
def autoMode (t : List Byte) : Mode :=
  if numOK t then .numeric else if alnumOK t then .alphanumeric else .byte

/-- The mode of CONFIG.MODEREQ (R151): automatic for 0, else the mode requested. -/
def requestedMode (modeReq : BitVec 2) (t : List Byte) : Mode :=
  (Mode.ofCode modeReq).getD (autoMode t)

/-! ### Lengths and capacity -/

/-- Payload bit length (R152). -/
def payloadBits (md : Mode) (len : Nat) : Nat :=
  match md with
  | .numeric => 10 * (len / 3) + [0, 4, 7].getD (len % 3) 0
  | .alphanumeric => 11 * (len / 2) + 6 * (len % 2)
  | .byte => 8 * len

/-- L(v, md) = 4 + CCW(v, md) + payloadBits(md, LEN) (R152). -/
def streamBits (v : Nat) (md : Mode) (len : Nat) : Nat := 4 + ccw v md + payloadBits md len

/-- fits(v, md) = L(v, md) ≤ 8·NDATA(v, l) (R154). -/
def fits (l : BitVec 2) (md : Mode) (len v : Nat) : Bool :=
  decide (streamBits v md len ≤ 8 * ndata v l)

/-- The versions 1, 2, …, 10 in order (R155). -/
def versions : List Nat := (List.range 10).map (· + 1)

/-- Version choice (R155): the least that fits for VREQ = 0, else VREQ itself when it fits. -/
def chooseVersion (vreq : Nat) (l : BitVec 2) (md : Mode) (len : Nat) : Option Nat :=
  if vreq = 0 then versions.find? (fits l md len)
  else if fits l md len vreq then some vreq else none

/-! ### Bit-stream assembly -/

/-- `put(x, w)`: the w-bit value x, most significant bit first (R156). -/
def put (x w : Nat) : List Bool := (List.range w).map fun k => x.testBit (w - 1 - k)

/-- The header (R156). -/
def headerBits (v : Nat) (md : Mode) (len : Nat) : List Bool :=
  put (modeInd md) 4 ++ put len (ccw v md)

/-- The decimal value of a digit byte. -/
def digit (b : Byte) : Nat := b.toNat - 0x30

/-- Numeric payload (R157): groups of 3 digits in 10 bits, 2 in 7, 1 in 4. -/
def numericPayload : List Byte → List Bool
  | a :: b :: c :: rest => put (100 * digit a + 10 * digit b + digit c) 10 ++ numericPayload rest
  | [a, b] => put (10 * digit a + digit b) 7
  | [a] => put (digit a) 4
  | [] => []

/-- Alphanumeric payload (R158): pairs as 45·a + b in 11 bits, an odd trailing one in 6. -/
def alnumPayload : List Byte → List Bool
  | a :: b :: rest => put (45 * alnumIndex a + alnumIndex b) 11 ++ alnumPayload rest
  | [a] => put (alnumIndex a) 6
  | [] => []

/-- Byte payload (R159). -/
def bytePayload (t : List Byte) : List Bool := t.flatMap fun b => put b.toNat 8

/-- The payload of the mode (R157 to R159). -/
def payload (md : Mode) (t : List Byte) : List Bool :=
  match md with
  | .numeric => numericPayload t
  | .alphanumeric => alnumPayload t
  | .byte => bytePayload t

/-- The bits before the terminator: header and payload. -/
def streamOf (v : Nat) (md : Mode) (t : List Byte) : List Bool :=
  headerBits v md t.length ++ payload md t

/-- The terminator of step 1 of R160: min(4, C − L) zero bits. -/
def withTerminator (capacity : Nat) (bits : List Bool) : List Bool :=
  bits ++ List.replicate (min 4 (capacity - bits.length)) false

/-- Step 2 of R160: zero bits until the length is a multiple of 8. -/
def alignBits (bits : List Bool) : List Bool :=
  bits ++ List.replicate ((8 - bits.length % 8) % 8) false

/-- A byte from its bits, bit 7 first (step 3 of R160). -/
def byteOfBits (bits : List Bool) : Byte :=
  BitVec.ofNat 8 (bits.foldl (fun acc b => 2 * acc + b.toNat) 0)

/-- Step 3 of R160: the bits cut into bytes. -/
def cutBytes (bits : List Bool) : List Byte :=
  (List.range (bits.length / 8)).map fun i => byteOfBits ((bits.drop (8 * i)).take 8)

/-- The pad bytes of step 4 of R160: 0xEC, 0x11, 0xEC, …. -/
def padBytes (k : Nat) : List Byte := (List.range k).map fun i => if i % 2 = 0 then 0xEC else 0x11

/-- dataCW(T, md, v, l) (R160). -/
def dataCw (t : List Byte) (md : Mode) (v : Nat) (l : BitVec 2) : List Byte :=
  let bytes := cutBytes (alignBits (withTerminator (8 * ndata v l) (streamOf v md t)))
  bytes ++ padBytes (ndata v l - bytes.length)

/-! ### Commands -/

/-- Checks 2 to 4 of R153 with the mode and version they settle (R151, R155). The error of check 2
carries CONFIG.MODEREQ as its mode; ERRECL is CONFIG.ECL in both capacity errors (R30, log 11). -/
def State.chooseModeVersion (s : State) : Except CmdError (Mode × Nat) :=
  if s.len > Config.textCapacity then .error (.capacity s.config.modeReq s.level)
  else
    let md := requestedMode s.config.modeReq s.text
    if eligible md s.text then
      match chooseVersion s.config.vreq.toNat s.level md s.len with
      | none => .error (.capacity md.code s.level)
      | some v => .ok (md, v)
    else .error (.plain .modeIneligible)

/-- SELECT (R161): check 1 of R153, then the others. -/
def execSelect (s : State) : Host.Outcome State Fault Refusal :=
  if s.config.vreq.toNat > 10 then raise (.plain .badConfig) s
  else
    match s.chooseModeVersion with
    | .error e => raise e s
    | .ok (md, v) =>
      complete ((s.setVersionMode v md).setBitLen (BitVec.ofNat 16 (streamBits v md s.len)))

/-- The checks of PACK on the resolved version and mode, in R162's order. -/
def State.packChecks (s : State) (v : Nat) (md : Mode) : Option CmdError :=
  if s.len > Config.textCapacity then some (.capacity md.code s.level)
  else if !eligible md s.text then some (.plain .modeIneligible)
  else if !fits s.level md s.len v then some (.capacity md.code s.level)
  else none

/-- PACK (R162). -/
def execPack (s : State) : Host.Outcome State Fault Refusal :=
  withVersion s fun v =>
    match Mode.ofCode s.resolved.mode with
    | none => raise (.plain .badConfig) s
    | some md =>
      match s.packChecks v md with
      | some e => raise e s
      | none =>
        complete ((s.writeBytes Buf.dataCw.base (dataCw s.text md v s.level)).setBitLen
          (BitVec.ofNat 16 (streamBits v md s.len)))

end Sys2Proof.Machine
end

