-- ==== Sys2Proof/Machine/Mask.lean ====
section
/-! DEFINITION. Mask application, penalty scoring and mask selection (44_mask.md), with the commands
APPLYMASK, SCORE and SELECTMASK. -/

namespace Sys2Proof.Machine

/-! ### Masks -/

/-- pred(m, r, c) (R230). -/
def maskPred (m : BitVec 3) (r c : Nat) : Bool :=
  match m.toNat with
  | 0 => (r + c) % 2 == 0
  | 1 => r % 2 == 0
  | 2 => c % 3 == 0
  | 3 => (r + c) % 3 == 0
  | 4 => (r / 2 + c / 3) % 2 == 0
  | 5 => (r * c) % 2 + (r * c) % 3 == 0
  | 6 => ((r * c) % 2 + (r * c) % 3) % 2 == 0
  | _ => ((r + c) % 2 + (r * c) % 3) % 2 == 0

/-- One cell of the masked grid (R231): flipped when it is maskable (MASKMAP nonzero, R47) and the
predicate holds. -/
def maskCell (m : BitVec 3) (r c : Nat) (x mk : Byte) : Byte :=
  if mk ≠ 0 ∧ maskPred m r c then x ^^^ 1 else x

/-- mask(G, M, m) (R231). -/
def maskGrid (g mk : Grid) (m : BitVec 3) : Grid :=
  (List.zip g mk).zipIdx.map fun row =>
    (List.zip row.1.1 row.1.2).zipIdx.map fun cell => maskCell m row.2 cell.2 cell.1.1 cell.1.2

/-! ### Penalties -/

/-- The lengths of the maximal runs of equal cells, for a run of `k` cells equal to `x` so far. -/
def runsFrom (x : Byte) (k : Nat) : List Byte → List Nat
  | [] => [k]
  | y :: ys => if y = x then runsFrom x (k + 1) ys else k :: runsFrom y 1 ys

/-- The lengths of the maximal runs of a line. -/
def runs : List Byte → List Nat
  | [] => []
  | x :: xs => runsFrom x 1 xs

/-- The cost of a run of length k (R232). -/
def runCost (k : Nat) : Nat := if 5 ≤ k then 3 + (k - 5) else 0

/-- The columns of an n×n grid, top to bottom. -/
def columns (g : Grid) (n : Nat) : List (List Byte) :=
  (List.range n).map fun c => g.map fun row => row.getD c 0

/-- The 2n lines: every row and every column. -/
def gridLines (g : Grid) (n : Nat) : List (List Byte) := g ++ columns g n

/-- N1, the run penalty (R232). -/
def penaltyRuns (g : Grid) (n : Nat) : Nat :=
  ((gridLines g n).map fun line => ((runs line).map runCost).sum).sum

/-- The 2×2 block at (r, c) is of one value (R233). -/
def blockEqual (g : Grid) (r c : Nat) : Bool :=
  g.at r c == g.at r (c + 1) && g.at r c == g.at (r + 1) c && g.at r c == g.at (r + 1) (c + 1)

/-- N2, the block penalty (R233). -/
def penaltyBlocks (g : Grid) (n : Nat) : Nat :=
  ((List.range (n - 1)).map fun r =>
    ((List.range (n - 1)).map fun c => if blockEqual g r c then 3 else 0).sum).sum

/-- PA (R234). -/
def patternA : List Byte := [1, 0, 1, 1, 1, 0, 1, 0, 0, 0, 0]

/-- PB (R234). -/
def patternB : List Byte := [0, 0, 0, 0, 1, 0, 1, 1, 1, 0, 1]

/-- The cost of the 11-cell windows of one line of length n (R234). -/
def windowCost (n : Nat) (line : List Byte) : Nat :=
  ((List.range (n - 10)).map fun s =>
    let w := (line.drop s).take 11
    if w = patternA ∨ w = patternB then 40 else 0).sum

/-- N3, the finder-likeness penalty (R234). -/
def penaltyFinder (g : Grid) (n : Nat) : Nat := ((gridLines g n).map (windowCost n)).sum

/-- N4, the balance penalty (R235), in exact integer arithmetic. -/
def penaltyBalance (g : Grid) (n : Nat) : Nat :=
  10 * ((((100 * g.countCells dark : Nat) : Int) - ((50 * (n * n) : Nat) : Int)).natAbs / (5 * (n * n)))

/-- The four penalty components (R236). -/
structure Penalty where
  n1 : Nat
  n2 : Nat
  n3 : Nat
  n4 : Nat
deriving DecidableEq, Repr

/-- score(G) = N1 + N2 + N3 + N4 (R236). -/
def Penalty.total (p : Penalty) : Nat := p.n1 + p.n2 + p.n3 + p.n4

/-- The components of an n×n grid (R232 to R235), on the whole grid. -/
def penalty (g : Grid) (n : Nat) : Penalty :=
  ⟨penaltyRuns g n, penaltyBlocks g n, penaltyFinder g n, penaltyBalance g n⟩

/-- SCORE1..SCORE4 (R38). -/
def Penalty.words (p : Penalty) : Vector Word 4 :=
  #v[BitVec.ofNat 32 p.n1, BitVec.ofNat 32 p.n2, BitVec.ofNat 32 p.n3, BitVec.ofNat 32 p.n4]

/-! ### Selection -/

/-- The eight candidate totals s_0..s_7 (R237), each from the same base grid. -/
def candidateScores (g mk : Grid) (n : Nat) : List Nat :=
  (List.range 8).map fun m => (penalty (maskGrid g mk (BitVec.ofNat 3 m)) n).total

/-- The loop of R237: only a strictly lower score replaces the incumbent. -/
def winner (scores : List Nat) : Nat :=
  (List.range 7).foldl
    (fun best k => if scores.getD (k + 1) 0 < scores.getD best 0 then k + 1 else best) 0

/-- PEN0..PEN7 (R37). -/
def penWords (scores : List Nat) : Vector Word 8 :=
  Vector.ofFn fun m => BitVec.ofNat 32 (scores.getD m.val 0)

/-- What the search leaves (R242): PEN, SCORE, RESULT and RESOLVED.MASK for the base grid (g, mk) of
side n. The masked grid itself is `maskGrid g mk` at the winner. -/
def State.recordSearch (s : State) (g mk : Grid) (n : Nat) : State :=
  let scores := candidateScores g mk n
  let best := winner scores
  (((s.setPen (penWords scores)).setScore
    (penalty (maskGrid g mk (BitVec.ofNat 3 best)) n).words).setResult
      (BitVec.ofNat 32 (scores.getD best 0))).setMask (BitVec.ofNat 3 best)

/-- The mask the search picks for a base grid. -/
def searchMask (g mk : Grid) (n : Nat) : BitVec 3 := BitVec.ofNat 3 (winner (candidateScores g mk n))

/-! ### Commands -/

/-- Every maskable cell is 0 or 1 (R240). -/
def maskableBinary (g mk : Grid) : Bool :=
  (List.zip g mk).all fun row => (List.zip row.1 row.2).all fun cell => cell.2 == 0 || isBinary cell.1

/-- APPLYMASK (R240). -/
def execApplymask (m : BitVec 3) (s : State) : Host.Outcome State Fault Refusal :=
  withVersion s fun v =>
    let g := s.readGrid .grid (gridSide v)
    let mk := s.readGrid .maskMap (gridSide v)
    if maskableBinary g mk then complete (s.writeGrid .grid (maskGrid g mk m))
    else raise (.plain .badCell) s

/-- SCORE (R241). -/
def execScore (s : State) : Host.Outcome State Fault Refusal :=
  withVersion s fun v =>
    let g := s.readGrid .grid (gridSide v)
    if g.allCells isBinary then
      let p := penalty g (gridSide v)
      complete ((s.setScore p.words).setResult (BitVec.ofNat 32 p.total))
    else raise (.plain .badCell) s

/-- SELECTMASK (R242). -/
def execSelectmask (s : State) : Host.Outcome State Fault Refusal :=
  withVersion s fun v =>
    let n := gridSide v
    let g := s.readGrid .grid n
    let mk := s.readGrid .maskMap n
    if g.allCells isBinary then
      complete ((s.recordSearch g mk n).writeGrid .grid (maskGrid g mk (searchMask g mk n)))
    else raise (.plain .badCell) s

end Sys2Proof.Machine
end

