-- ==== Sys2Proof/Machine/ReedSolomon.lean ====
section
/-! DEFINITION. Reed-Solomon encoding and interleaving (42_reed_solomon.md), with the commands RSGEN,
RSENC and ECENC. -/

namespace Sys2Proof.Machine

/-- One factor of the generator (R180): `new[k] = (gen ++ [0])[k] XOR gfmul(gen[k−1], r)` for k ≥ 1,
and new[0] = gen[0]. -/
def genStep (gen : List Byte) (r : Byte) : List Byte :=
  List.zipWith (· ^^^ ·) (gen ++ [0]) (0 :: gen.map fun g => gfmul g r)

/-- gen[0..ec] (R180): the product of (x − α^i) for i in 0..ec−1, highest power first. -/
def generator (ec : Nat) : List Byte :=
  (List.range ec).foldl (fun gen i => genStep gen (gfExp i)) [1]

/-- One round of the division register of R181, for a generator `gen` and a codeword `d`. -/
def parityStep (gen rem : List Byte) (d : Byte) : List Byte :=
  let f := d ^^^ rem.headD 0
  List.zipWith (· ^^^ ·) (rem.tail ++ [0]) (gen.tail.map fun g => gfmul g f)

/-- par[0..ec−1] of a block (R181), the register starting at zero. -/
def parity (ec : Nat) (block : List Byte) : List Byte :=
  block.foldl (parityStep (generator ec)) (List.replicate ec 0)

/-- The block lengths in order (R182): each group yields `count` blocks of k codewords. -/
def blockLengths (groups : List (Nat × Nat)) : List Nat :=
  groups.flatMap fun g => List.replicate g.1 g.2

/-- Consecutive blocks of the given lengths (R182). -/
def splitBlocks : List Nat → List Byte → List (List Byte)
  | [], _ => []
  | k :: ks, d => d.take k :: splitBlocks ks (d.drop k)

/-- Entry i of every list that has one, in order; ragged lists skip once exhausted (R183). -/
def column (lists : List (List Byte)) (i : Nat) : List Byte := lists.filterMap fun b => b[i]?

/-- The first `rounds` columns, one after the other (R183's round-robin pass). -/
def roundRobin (rounds : Nat) (lists : List (List Byte)) : List Byte :=
  (List.range rounds).flatMap (column lists)

/-- The interleaved data and parity of R183 for the data codewords of (v, l). -/
def finalCw (d : List Byte) (v : Nat) (l : BitVec 2) : List Byte :=
  let blocks := splitBlocks (blockLengths (vt v l).groups) d
  roundRobin ((blockLengths (vt v l).groups).foldl max 0) blocks ++
    roundRobin (ecpb v l) (blocks.map (parity (ecpb v l)))

/-! ### Commands -/

/-- The parity counts RSGEN and RSENC accept (R105: "EC = 0 or EC > 30" is refused). -/
def ecOK (ec : Nat) : Bool := decide (1 ≤ ec) && decide (ec ≤ Config.maxEc)

/-- RSGEN (R184). -/
def execRsgen (ec : Nat) (s : State) : Host.Outcome State Fault Refusal :=
  if ecOK ec then complete (s.writeBytes Buf.genBuf.base (generator ec))
  else raise (.plain .badOperand) s

/-- RSENC (R185). -/
def execRsenc (len ec : Nat) (s : State) : Host.Outcome State Fault Refusal :=
  if ecOK ec && decide (len + ec ≤ Config.maxCodeword) then
    complete (s.writeBytes Buf.parBuf.base (parity ec (s.readBytes Buf.rsBuf.base len)))
  else raise (.plain .badOperand) s

/-- ECENC (R186). -/
def execEcenc (s : State) : Host.Outcome State Fault Refusal :=
  withVersion s fun v =>
    complete (s.writeBytes Buf.finalCw.base
      (finalCw (s.readBytes Buf.dataCw.base (ndata v s.level)) v s.level))

end Sys2Proof.Machine
end

