-- ==== Sys2Proof/Machine/Pipeline.lean ====
section
/-! DEFINITION. The encode pipeline (46_pipeline.md): ENCODE as the composition of the stages' own
functions, and the EncodeResult a host reads afterwards (R282). -/

namespace Sys2Proof.Machine

/-- Steps 1 to 3 of R280 as ENCODE commits them (R281): RESOLVED.VER and MODE, BITLEN, DATACW, FINALCW. -/
def State.encodeStream (s : State) (md : Mode) (v : Nat) : State :=
  let d := dataCw s.text md v s.level
  ((((s.setVersionMode v md).setBitLen (BitVec.ofNat 16 (streamBits v md s.len))).writeBytes
    Buf.dataCw.base d).writeBytes Buf.finalCw.base (finalCw d v s.level))

/-- The unmasked grid of steps 4 and 5 (R281: BUILDSTRUCT then PLACEDATA). -/
def encodeGrid (t : List Byte) (md : Mode) (v : Nat) (l : BitVec 2) : Grid :=
  placeGrid (buildGrid v) (gridSide v) (finalCw (dataCw t md v l) v l) (ntotal v l)

/-- MASKMAP of steps 4 and 5. It depends on the version only. -/
def encodeMap (v : Nat) : Grid := placeMap (buildGrid v) (gridSide v)

/-- Step 6 (R281): the mask of the grid. MREQ = 8 searches, any other MREQ is the mask itself. -/
def encodeMask (mreq : BitVec 4) (g mk : Grid) (n : Nat) : BitVec 3 :=
  if mreq.toNat = 8 then searchMask g mk n else BitVec.ofNat 3 mreq.toNat

/-- Step 6 on the registers (R281): the search records its scores; a fixed mask records only
RESOLVED.MASK ("no scoring"). -/
def State.encodeSelect (s : State) (g mk : Grid) (n : Nat) : State :=
  if s.config.mreq.toNat = 8 then s.recordSearch g mk n
  else s.setMask (encodeMask s.config.mreq g mk n)

/-- The final grid (R281): masked, then with the format and version bits written. -/
def finishGrid (g mk : Grid) (v : Nat) (l : BitVec 2) (m : BitVec 3) : Grid :=
  putBits (putBits (maskGrid g mk m) (formatCells (gridSide v)) (formatWord l m))
    (versionCellsOf v) (versionRegWord v)

/-- ENCODE's writes once its checks have settled mode and version (R281). -/
def State.encodeAs (s : State) (md : Mode) (v : Nat) : State :=
  let n := gridSide v
  let g := encodeGrid s.text md v s.level
  let mk := encodeMap v
  let m := encodeMask s.config.mreq g mk n
  let t := (s.encodeStream md v).encodeSelect g mk n
  (((t.writeGrid .grid (finishGrid g mk v s.level m)).writeGrid .maskMap mk).setFormat
    (BitVec.ofNat 15 (formatWord s.level m))).setVerWord (BitVec.ofNat 18 (versionRegWord v))

/-- ENCODE (R281): the checks first, then all stages at once. The stages' own checks always pass here
(R281, corner cases), so none is made again (log 12). -/
def execEncode (s : State) : Host.Outcome State Fault Refusal :=
  if s.config.vreq.toNat > 10 ∨ s.config.mreq.toNat > 8 then raise (.plain .badConfig) s
  else
    match s.chooseModeVersion with
    | .error e => raise e s
    | .ok (md, v) => complete (s.encodeAs md v)

/-- EncodeResult (R282). -/
structure EncodeResult where
  size : Nat
  data : List Byte
  version : Nat
  mask : BitVec 3
  level : BitVec 2
deriving DecidableEq, Repr

/-- What a host reads after a successful ENCODE (R282). -/
def State.encodeResult (s : State) : EncodeResult :=
  ⟨s.sizeReg, s.readBytes Buf.grid.base (s.sizeReg * s.sizeReg), s.resolved.ver.toNat,
    s.resolved.mask, s.level⟩

end Sys2Proof.Machine
end

