-- ==== Sys2Proof/Machine/Dispatch.lean ====
section
/-! DEFINITION. One arm per command: its meaning. -/

namespace Sys2Proof.Machine

-- Each meaning completes the command (60_exceptions.md R302) or raises its error (R303).
def exec (i : Instr) (s : State) : Host.Outcome State Fault Refusal :=
  match i with
  | .nop => Sys2Proof.Machine.execNop s
  | .gfmul a b => Sys2Proof.Machine.execGfmul a b s
  | .gfpow a e => Sys2Proof.Machine.execGfpow a e s
  | .gfexp k => Sys2Proof.Machine.execGfexp k s
  | .gflog a => Sys2Proof.Machine.execGflog a s
  | .select => Sys2Proof.Machine.execSelect s
  | .pack => Sys2Proof.Machine.execPack s
  | .rsgen ec => Sys2Proof.Machine.execRsgen ec s
  | .rsenc len ec => Sys2Proof.Machine.execRsenc len ec s
  | .ecenc => Sys2Proof.Machine.execEcenc s
  | .buildstruct => Sys2Proof.Machine.execBuildstruct s
  | .placedata => Sys2Proof.Machine.execPlacedata s
  | .applymask m => Sys2Proof.Machine.execApplymask m s
  | .score => Sys2Proof.Machine.execScore s
  | .selectmask => Sys2Proof.Machine.execSelectmask s
  | .fmtbits l m => Sys2Proof.Machine.execFmtbits l m s
  | .verbits v => Sys2Proof.Machine.execVerbits v s
  | .writefmt => Sys2Proof.Machine.execWritefmt s
  | .writever => Sys2Proof.Machine.execWritever s
  | .encode => Sys2Proof.Machine.execEncode s

end Sys2Proof.Machine
end

