-- ==== Sys2Proof/Machine/HostAccess.lean ====
section
/-! DEFINITION. The host's accesses (20_memory.md R71 to R76; 60_exceptions.md R301, R305;
70_reset_and_hazards.md R340, R352) and the host statements of 30_encoding.md R107 and R108. -/

namespace Sys2Proof.Machine

/-! ### Register views -/

/-- CONFIG as it reads (R27): reserved bits 0. -/
def ConfigReg.word (c : ConfigReg) : Word :=
  (0#15 ++ BitVec.ofBool c.ie ++ 0#2 ++ c.modeReq ++ c.mreq ++ c.vreq ++ 0#2 ++ c.ecl : BitVec 32)

/-- CONFIG as a write leaves it (R27): "Every field stores exactly the bits written." -/
def ConfigReg.ofWord (v : Word) : ConfigReg where
  ecl := v.extractLsb' 0 2
  vreq := v.extractLsb' 4 4
  mreq := v.extractLsb' 8 4
  modeReq := v.extractLsb' 12 2
  ie := v.getLsbD 16

/-- RESOLVED as it reads (R32). -/
def ResolvedReg.word (r : ResolvedReg) : Word :=
  (0#21 ++ r.mask ++ 0#2 ++ r.mode ++ r.ver : BitVec 32)

/-- RESOLVED as a write leaves it (R32). -/
def ResolvedReg.ofWord (v : Word) : ResolvedReg where
  ver := v.extractLsb' 0 4
  mode := v.extractLsb' 4 2
  mask := v.extractLsb' 8 3

/-- STATUS as it reads (R30). -/
def State.statusWord (s : State) : Word := s.status.word s.phase.isBusy

/-- The value of a register (R26 to R38), reserved fields reading 0 (R71). -/
def State.readReg (s : State) : Reg → Word
  | .id => Config.idValue
  | .config => s.config.word
  | .textLen => s.textLen.setWidth 32
  | .cmd => s.cmd
  | .status => s.statusWord
  | .result => s.result
  | .resolved => s.resolved.word
  | .bitLen => s.bitLen.setWidth 32
  | .format => s.format.setWidth 32
  | .verWord => s.verWord.setWidth 32
  | .size => BitVec.ofNat 32 s.sizeReg
  | .ndata => BitVec.ofNat 32 (s.tableReg ndata)
  | .ntotal => BitVec.ofNat 32 (s.tableReg ntotal)
  | .ecpb => BitVec.ofNat 32 (s.tableReg ecpb)
  | .nblocks => BitVec.ofNat 32 (s.tableReg nblocks)
  | .pen m => s.pen.get m
  | .score k => s.score.get k

/-! ### Reads -/

/-- The value of a legal read while PHASE = IDLE (R71): a byte is zero-extended on the data bus. -/
def State.targetValue (s : State) : Target → Word
  | .reg r => s.readReg r
  | .cell off => (s.readByte off).setWidth 32

/-- The registers that read exactly while BUSY (R352: "Reads of ID and STATUS"). -/
def Target.exactWhileBusy : Target → Bool
  | .reg .id => true
  | .reg .status => true
  | _ => false

/-- A fresh unspecified value of the access's width (R352, log 3). -/
def State.freshRead (s : State) : Target → Word
  | .reg _ => Config.busyRead s.busyDraws
  | .cell _ => ((Config.busyRead s.busyDraws).setWidth 8).setWidth 32

/-- MemRead (R71): an illegal one answers 0 and records BAD_ACCESS (R75); while BUSY all but ID and STATUS
answer a fresh draw (R352); no read changes anything else. -/
def hostRead (off : Offset) (w : Width) (s : State) : State :=
  match target off w with
  | none => (recordError (.plain .badAccess) s).setReply (some 0)
  | some t =>
    if s.phase.isBusy && !t.exactWhileBusy then
      (s.setReply (some (s.freshRead t))).setBusyDraws (s.busyDraws + 1)
    else s.setReply (some (s.targetValue t))

/-! ### Writes -/

/-- Acceptance of a command (R301): the word is stored, DONE falls, PHASE becomes BUSY for the next
latency of `cmdLatency`, 0 cycles when none is listed (R356, log 4). -/
def acceptCommand (w : Word) (s : State) : State :=
  (((s.setCmd w).setStatus s.status.clearDone).setPhase (.busy (s.cmdLatency.headD 0))).setCmdLatency
    s.cmdLatency.tail

/-- A legal write to CMD while PHASE = IDLE (R301): while ERR = 1 it is dropped and sets MULTI, without a
change of ERRCODE. -/
def issueCommand (w : Word) (s : State) : State :=
  if s.status.err then s.setStatus { s.status with multi := true } else acceptCommand w s

/-- A write to a register while PHASE = IDLE (R72): RW registers take the non-reserved fields, RO registers
ignore it (R25). `hostWrite` records a write to an RO register as a BAD_ACCESS instead (`writable`, log 9),
which leaves the register as it was just the same. -/
def writeReg (r : Reg) (v : Word) (s : State) : State :=
  match r with
  | .config => s.setConfig (ConfigReg.ofWord v)
  | .textLen => s.setTextLen (v.setWidth 16)
  | .cmd => issueCommand v s
  | .status => writeStatus v s
  | .resolved => s.setResolved (ResolvedReg.ofWord v)
  | .id | .result | .bitLen | .format | .verWord | .size | .ndata | .ntotal | .ecpb | .nblocks
  | .pen _ | .score _ => s

/-- A legal write while PHASE = IDLE (R72): "A buffer byte takes v[7:0]." -/
def writeTarget (t : Target) (v : Word) (s : State) : State :=
  match t with
  | .reg r => writeReg r v s
  | .cell off => s.writeBytes off [v.setWidth 8]

/-- MemWrite (R72), checked in the order of R305: legality (`writable`, else BAD_ACCESS), then the phase (BUSY_WRITE for
anything but STATUS, R352), then R301 for CMD. -/
def hostWrite (off : Offset) (w : Width) (v : Word) (s : State) : State :=
  match writable off w with
  | none => recordError (.plain .badAccess) s
  | some t =>
    if s.phase.isBusy && !(t == .reg .status) then recordError (.plain .busyWrite) s
    else writeTarget t v s

/-! ### The host's cycle -/

/-- The reset input (R340): every register takes its reset value and PHASE is IDLE; a command in flight
commits nothing; each buffer byte holds a new BUF_INIT draw. The host's own fields stay (log 2, 13). -/
def resetInput (s : State) : State :=
  { State.reset with
    bufEpoch := s.bufEpoch + 1
    busyDraws := s.busyDraws
    cmdLatency := s.cmdLatency
    hostOps := s.hostOps
    reply := s.reply }

/-- One poll of WAIT (R107): STATUS is read; while BUSY reads 1 the host will poll again. -/
def pollWait (s : State) : State :=
  let s := s.setReply (some s.statusWord)
  if s.phase.isBusy then s.setHostOps (.wait :: s.hostOps) else s

/-- What the host does in a cycle. -/
def perform (op : HostOp) (s : State) : State :=
  match op with
  | .read off w => hostRead off w s
  | .write off w v => hostWrite off w v s
  | .wait => pollWait s
  | .idle => s
  | .reset => resetInput s

/-- A cycle of the host: the first of its operations, or none. When PHASE = IDLE and the host does
nothing, "every register and buffer keeps its value" (R316). -/
def hostCycle (s : State) : State :=
  match s.hostOps with
  | [] => s
  | op :: rest => perform op (s.setHostOps rest)

/-! ### Host statements -/

/-- `WR32 off, v` (R107). -/
def wr32 (off : Offset) (v : Word) : HostOp := .write off .word v

/-- `WR8 off, v` (R107). -/
def wr8 (off : Offset) (v : Byte) : HostOp := .write off .byte (v.setWidth 32)

/-- `RD32 off` (R107). -/
def rd32 (off : Offset) : HostOp := .read off .word

/-- `RD8 off` (R107). -/
def rd8 (off : Offset) : HostOp := .read off .byte

/-- ISSUE of a command word (R107): `WR32 0x00C, <word>` followed by WAIT. -/
def issue (w : Word) : List HostOp := [wr32 0x00C w, .wait]

/-- The UTF-8 bytes of a text (R108), character by character. -/
def utf8Bytes (s : String) : List Byte :=
  s.toList.flatMap fun c => (String.utf8EncodeChar c).map UInt8.toBitVec

/-- `WR8` at a number of bytes from BASE. One past the window reaches no offset of the block, which
"decodes no address outside the window" (20_memory.md R70): for the block it is a cycle without an access. -/
def wr8At (off : Nat) (v : Byte) : HostOp :=
  if off < Config.windowSize then wr8 (BitVec.ofNat 14 off) v else .idle

/-- The writes of LOADTEXT for the bytes b_0 … b_(k−1) (R108). -/
def loadBytes (t : List Byte) : List HostOp :=
  (t.zipIdx.map fun p => wr8At (0x1000 + p.2) p.1) ++ [wr32 0x008 (BitVec.ofNat 32 t.length)]

/-- LOADTEXT (R108). -/
def loadText (s : String) : List HostOp := loadBytes (utf8Bytes s)

/-- CFG (R108): `WR32 0x004, l | vr<<4 | mr<<8 | md<<12 | e<<16`; "An omitted operand takes its CONFIG
reset value". -/
def cfg (l : Word := 1) (vr : Word := 0) (mr : Word := 8) (md : Word := 0) (e : Word := 0) :
    List HostOp :=
  [wr32 0x004 (l ||| (vr <<< 4) ||| (mr <<< 8) ||| (md <<< 12) ||| (e <<< 16))]

/-- CLEARERR (R108). -/
def clearErr : List HostOp := [wr32 0x010 0x00000006]

/-- SETRES (R108): `WR32 0x018, vr | md<<4 | k<<8`. R108 gives defaults for CFG only, and 95_test_vectors.md
writes `SETRES v=1` (V-X1). DESIGN CHOICE: an omitted operand takes its RESOLVED reset value, 0 (log 21). -/
def setRes (vr : Word := 0) (md : Word := 0) (k : Word := 0) : List HostOp := [wr32 0x018 (vr ||| (md <<< 4) ||| (k <<< 8))]

/-- A host program has ended (R358): its last statement is performed and PHASE = IDLE. -/
def State.runEnded (s : State) : Bool := s.hostOps.isEmpty && !s.phase.isBusy

end Sys2Proof.Machine
end

