-- ==== Sys2Proof/Machine/Engine.lean ====
section
/-! DEFINITION. The engine: it decodes the command in flight and runs it (60_exceptions.md R301), and one
cycle of the block. -/

namespace Sys2Proof.Machine

/-- The engine executes the command in flight (R301): decoding comes first (R305), and a word without a
row raises ILLEGAL_COMMAND and changes nothing else (30_encoding.md R104). -/
def engine (s : State) : Host.Outcome State Fault Refusal :=
  match decode s.cmd with
  | .ok i => exec i s
  | .error _ => raise (.plain .illegalCommand) s

/-- One cycle. A completion that is due takes effect before any access of the same cycle (R305); else,
while BUSY, one cycle of the latency passes; the host performs at most one operation. -/
def cycle (s : State) : Host.Outcome State Fault Refusal :=
  match s.phase with
  | .idle => .next (hostCycle s)
  | .busy 0 => engine s
  | .busy (k + 1) => .next (hostCycle (s.setPhase (.busy k)))

/-- The state in which `w` has just been accepted (R301) and completes in the next cycle. -/
def loadCommand (w : Word) (s : State) : State :=
  ((s.setCmd w).setStatus s.status.clearDone).setPhase (.busy 0)

end Sys2Proof.Machine
end

