-- ==== Sys2Proof/Machine/Step.lean ====
section
/-! DEFINITION. The step of the machine, and the state whose next step runs a given command word. -/

namespace Sys2Proof.Machine

/-- One step: one cycle of the block and its host. -/
def step (s : State) : Host.Outcome State Fault Refusal := cycle s

/-- `s` with the `nbits`-bit command word `w` accepted, so that the next step runs it: the block fetches
no code and takes a command from the CMD write itself (20_memory.md R83, log 6). -/
def State.withFetchWord (s : State) (nbits w : Nat) : State := loadCommand (tableWord nbits w) s

end Sys2Proof.Machine
end

