-- ==== Sys2Proof/Machine/Assembler.lean ====
section
/-! DEFINITION. The assembler of 30_encoding.md R106: a line "mnemonic operand, operand" becomes the
command word, or nothing when an operand does not fit its field. -/

namespace Sys2Proof.Machine

/-- The value of a digit character below `radix`. -/
def digitValue (radix : Nat) (c : Char) : Option Nat :=
  let k := c.toNat
  let d :=
    if 0x30 ≤ k ∧ k ≤ 0x39 then k - 0x30
    else if 0x41 ≤ k ∧ k ≤ 0x46 then k - 0x41 + 10
    else if 0x61 ≤ k ∧ k ≤ 0x66 then k - 0x61 + 10
    else 16
  if d < radix then some d else none

/-- The number of a nonempty digit string. -/
def digitsValue (radix : Nat) (cs : List Char) : Option Nat :=
  if cs.isEmpty then none
  else cs.foldl (fun acc c => acc.bind fun n => (digitValue radix c).map fun d => n * radix + d) (some 0)

/-- A number: "decimal, or hexadecimal with a `0x` prefix" (R106). -/
def numberValue : List Char → Option Nat
  | '0' :: 'x' :: cs => digitsValue 16 cs
  | cs => digitsValue 10 cs

/-- FMTBITS's level operand: a letter, `L` = 0, `M` = 1, `Q` = 2, `H` = 3, or a number (R106). -/
def levelValue : List Char → Option Nat
  | ['L'] => some 0
  | ['M'] => some 1
  | ['Q'] => some 2
  | ['H'] => some 3
  | cs => numberValue cs

/-- Blanks at both ends left out. -/
def trimBlanks (cs : List Char) : List Char :=
  ((cs.dropWhile fun c => c == ' ').reverse.dropWhile fun c => c == ' ').reverse

/-- The pieces between commas. -/
def commaPieces (cs : List Char) : List (List Char) :=
  cs.foldr
    (fun c acc => if c = ',' then [] :: acc else
      match acc with
      | [] => [[c]]
      | p :: ps => (c :: p) :: ps) [[]]

/-- A number that fits a field of `w` bits. -/
def fitted (w : Nat) (n : Nat) : Option (BitVec w) := if n < 2 ^ w then some (BitVec.ofNat w n) else none

/-- The command of a mnemonic and its operands, in the order of R106. `none`: no such line, or an operand
that does not fit the field of a typed operand. -/
def assembleInstr (mnemonic : String) (ops : List (List Char)) : Option Instr :=
  match ops with
  | [] =>
    if mnemonic = "NOP" then some .nop
    else if mnemonic = "SELECT" then some .select
    else if mnemonic = "PACK" then some .pack
    else if mnemonic = "ECENC" then some .ecenc
    else if mnemonic = "BUILDSTRUCT" then some .buildstruct
    else if mnemonic = "PLACEDATA" then some .placedata
    else if mnemonic = "SCORE" then some .score
    else if mnemonic = "SELECTMASK" then some .selectmask
    else if mnemonic = "WRITEFMT" then some .writefmt
    else if mnemonic = "WRITEVER" then some .writever
    else if mnemonic = "ENCODE" then some .encode
    else none
  | [x] =>
    (numberValue x).bind fun a =>
      if mnemonic = "GFEXP" then some (.gfexp a)
      else if mnemonic = "GFLOG" then (fitted 8 a).map .gflog
      else if mnemonic = "RSGEN" then some (.rsgen a)
      else if mnemonic = "APPLYMASK" then (fitted 3 a).map .applymask
      else if mnemonic = "VERBITS" then some (.verbits a)
      else none
  | [x, y] =>
    if mnemonic = "FMTBITS" then
      ((levelValue x).bind (fitted 2)).bind fun l =>
        ((numberValue y).bind (fitted 3)).map fun m => .fmtbits l m
    else
      (numberValue x).bind fun a => (numberValue y).bind fun b =>
        if mnemonic = "GFMUL" then (fitted 8 a).bind fun p => (fitted 8 b).map fun q => .gfmul p q
        else if mnemonic = "GFPOW" then (fitted 8 a).map fun p => .gfpow p b
        else if mnemonic = "RSENC" then some (.rsenc a b)
        else none
  | _ => none

/-- The mnemonic of a line: what stands before the first blank. -/
def lineMnemonic (line : List Char) : String := String.ofList (line.takeWhile fun c => c != ' ')

/-- The operands of a line, blanks around them left out (log 14). -/
def lineOperands (line : List Char) : List (List Char) :=
  let rest := line.dropWhile fun c => c != ' '
  if rest.all fun c => c == ' ' then [] else (commaPieces rest).map trimBlanks

/-- The assembler (R106): the word of a line, or `none` when it refuses the line. "An assembler refuses
any operand that does not fit its field." -/
def assemble (line : List Char) : Option Word :=
  ((assembleInstr (lineMnemonic line) (lineOperands line)).filter Instr.wellFormed).map encode

end Sys2Proof.Machine
end

