-- ==== Sys2Proof/Safety.lean ====
section
/-! DEFINITION. The terms in which claims about the block are made: the invariant of every step, what
counts as a completed or a failed command, frames, and the spec's own conditions written out again
(30_encoding.md R103, 41_bitstream.md R150 to R160, 42_reed_solomon.md R180) independently of the
functions the meanings call. -/

namespace Sys2Proof.Machine

/-! ### The invariant -/

/-- Only buffer offsets are ever stored (20_memory.md R70, R77). -/
abbrev Memory.inBuffers (m : Memory) : Prop := ∀ c ∈ m, inBuffer c.1 = true

/-- STATUS is coherent (10_state.md R30, 60_exceptions.md R300, R303): without an error all error fields
are 0; with one, ERRCODE is one of the eight codes; and only CAPACITY_EXCEEDED carries a mode or level. -/
abbrev StatusReg.coherent (st : StatusReg) : Prop :=
  (st.err = false → st.multi = false ∧ st.errCode = 0 ∧ st.errMode = 0 ∧ st.errEcl = 0) ∧
  (st.err = true → 1 ≤ st.errCode.toNat ∧ st.errCode.toNat ≤ 8) ∧
  (st.errCode ≠ ErrCode.capacityExceeded.code → st.errMode = 0 ∧ st.errEcl = 0)

/-- The invariant of the block: the buffers' memory is canonical and holds buffer bytes only, STATUS is
coherent, and DONE is 0 while a command is in flight (R301: acceptance clears it). -/
abbrev State.inv (s : State) : Prop :=
  s.mem.wf ∧ s.mem.inBuffers ∧ s.status.coherent ∧ (s.phase.isBusy = true → s.status.done = false)

/-! ### Completed and failed commands, frames -/

/-- A command has completed successfully from `s` to `t` (60_exceptions.md R302): DONE is 1, PHASE is
IDLE, and "ERR, MULTI and the error fields are not changed". -/
abbrev State.completedTo (s t : State) : Prop :=
  t.phase = .idle ∧ t.status = { s.status with done := true }

/-- The state after a failing command (60_exceptions.md R303): "the state after a failing command is the
state before it, apart from STATUS", with PHASE back to IDLE. -/
def State.failed (s : State) (e : CmdError) : State :=
  { s with phase := .idle, status := s.status.record e }

/-- Every byte reads as before. -/
abbrev sameBytes (s t : State) : Prop := ∀ a, t.readByte a = s.readByte a

/-- Every byte outside `base … base + len − 1` reads as before. -/
abbrev sameBytesOutside (s t : State) (base len : Nat) : Prop :=
  ∀ a, (a < base ∨ base + len ≤ a) → t.readByte a = s.readByte a

/-- Every byte outside the n×n cells of GRID and of MASKMAP reads as before. -/
abbrev sameBytesOutsideGrids (s t : State) (n : Nat) : Prop :=
  ∀ a, (a < 0x2000 ∨ 0x2000 + n * n ≤ a) → (a < 0x3000 ∨ 0x3000 + n * n ≤ a) →
    t.readByte a = s.readByte a

/-- The only register written is RESULT; STATUS and PHASE are those of completion. -/
abbrev onlyResult (s t : State) : Prop :=
  t = { s with result := t.result, status := t.status, phase := t.phase } ∧ sameBytes s t

/-- No register is written; STATUS and PHASE are those of completion. -/
abbrev onlyMemory (s t : State) : Prop :=
  t = { s with mem := t.mem, status := t.status, phase := t.phase }

/-- RESOLVED.VER is v, a supported version (R32). -/
abbrev State.atVersion (s : State) (v : Nat) : Prop :=
  s.resolved.ver.toNat = v ∧ 1 ≤ v ∧ v ≤ 10

/-- RESOLVED.VER is no supported version (R32). -/
abbrev State.noVersion (s : State) : Prop :=
  s.resolved.ver.toNat = 0 ∨ 10 < s.resolved.ver.toNat

/-- GRID[r, c] of side n (R46). -/
def State.gridCell (s : State) (n r c : Nat) : Byte := s.readByte (0x2000 + (r * n + c))

/-- MASKMAP[r, c] of side n (R47). -/
def State.mapCell (s : State) (n r c : Nat) : Byte := s.readByte (0x3000 + (r * n + c))

/-- Run commands one after the other, each from the state the one before it left. -/
def execAll : List Instr → State → Host.Outcome State Fault Refusal
  | [], s => .next s
  | i :: is, s =>
    match exec i s with
    | .next t => execAll is t
    | .fault f => .fault f
    | .refused r => .refused r

/-! ### The opcode map, from 30_encoding.md R103 -/

/-- A row of R103: mnemonic, match, mask. -/
structure MapRow where
  mnemonic : String
  matchWord : Word
  mask : Word
deriving DecidableEq, Repr

/-- The columns mnemonic, match and mask of R103. -/
def opcodeMap : List MapRow :=
  [⟨"NOP", 0x00000000, 0xFFFFFFFF⟩, ⟨"GFMUL", 0x01000000, 0xFFFF0000⟩,
    ⟨"GFPOW", 0x02000000, 0xFF000000⟩, ⟨"GFEXP", 0x03000000, 0xFFFFFE00⟩,
    ⟨"GFLOG", 0x04000000, 0xFFFFFF00⟩, ⟨"SELECT", 0x10000000, 0xFFFFFFFF⟩,
    ⟨"PACK", 0x11000000, 0xFFFFFFFF⟩, ⟨"RSGEN", 0x20000000, 0xFFFFFFC0⟩,
    ⟨"RSENC", 0x21000000, 0xFFFF00C0⟩, ⟨"ECENC", 0x22000000, 0xFFFFFFFF⟩] ++
  [⟨"BUILDSTRUCT", 0x30000000, 0xFFFFFFFF⟩, ⟨"PLACEDATA", 0x31000000, 0xFFFFFFFF⟩,
    ⟨"APPLYMASK", 0x40000000, 0xFFFFFFF8⟩, ⟨"SCORE", 0x41000000, 0xFFFFFFFF⟩,
    ⟨"SELECTMASK", 0x42000000, 0xFFFFFFFF⟩, ⟨"FMTBITS", 0x50000000, 0xFFFFFFE0⟩,
    ⟨"VERBITS", 0x51000000, 0xFFFFFFC0⟩, ⟨"WRITEFMT", 0x52000000, 0xFFFFFFFF⟩,
    ⟨"WRITEVER", 0x53000000, 0xFFFFFFFF⟩, ⟨"ENCODE", 0x60000000, 0xFFFFFFFF⟩]

/-- The opcodes R104 lists as illegal. -/
def unlistedOpcode (k : Nat) : Prop :=
  (0x05 ≤ k ∧ k ≤ 0x0F) ∨ (0x12 ≤ k ∧ k ≤ 0x1F) ∨ (0x23 ≤ k ∧ k ≤ 0x2F) ∨ (0x32 ≤ k ∧ k ≤ 0x3F) ∨
    (0x43 ≤ k ∧ k ≤ 0x4F) ∨ (0x54 ≤ k ∧ k ≤ 0x5F) ∨ (0x61 ≤ k ∧ k ≤ 0xFF)

/-! ### Numbers of a version and level, from 10_state.md R54 and R55 -/

/-- Entry (v, l) of a table of ten rows. -/
def tableEntry (t : List (List Nat)) (v : Nat) (l : BitVec 2) : Nat := (t.getD v []).getD l.toNat 0

/-- NDATA (R55), row v, in the level order L, M, Q, H. -/
def ndataRows : List (List Nat) :=
  [[]] ++
  [[19, 16, 13, 9], [34, 28, 22, 16], [55, 44, 34, 26], [80, 64, 48, 36], [108, 86, 62, 46]] ++
  [[136, 108, 76, 60], [156, 124, 88, 66], [194, 154, 110, 86], [232, 182, 132, 100], [274, 216, 154, 122]]

/-- The parity codewords per block: the number before the semicolon in the cells of R54. -/
def ecRows : List (List Nat) :=
  [[]] ++
  [[7, 10, 13, 17], [10, 16, 22, 28], [15, 26, 18, 22], [20, 18, 26, 16], [26, 24, 18, 22]] ++
  [[18, 16, 24, 28], [20, 18, 18, 26], [24, 22, 22, 26], [30, 22, 20, 24], [18, 26, 24, 28]]

/-- The numbers of blocks: the sums of the counts in the cells of R54. -/
def blockRows : List (List Nat) :=
  [[]] ++
  [[1, 1, 1, 1], [1, 1, 1, 1], [1, 1, 2, 2], [1, 2, 2, 4], [1, 2, 4, 4]] ++
  [[2, 4, 4, 4], [2, 4, 6, 5], [2, 4, 6, 6], [2, 5, 8, 8], [4, 5, 8, 8]]

/-- NTOTAL (R55). -/
def ntotalRow : List Nat := [0, 26, 44, 70, 100, 134, 172, 196, 242, 292, 346]

/-! ### Modes and versions, from 41_bitstream.md R150 to R155 -/

/-- numOK(T) (R150). -/
def numericText (t : List Byte) : Prop := ∀ b ∈ t, 0x30 ≤ b.toNat ∧ b.toNat ≤ 0x39

/-- alnumOK(T) (R150): the bytes of R59, written out. -/
def alnumText (t : List Byte) : Prop :=
  ∀ b ∈ t, (0x30 ≤ b.toNat ∧ b.toNat ≤ 0x39) ∨ (0x41 ≤ b.toNat ∧ b.toNat ≤ 0x5A) ∨
    b.toNat ∈ [0x20, 0x24, 0x25, 0x2A, 0x2B, 0x2D, 0x2E, 0x2F, 0x3A]

/-- The text is eligible for the mode (R150): every text is for byte mode. -/
def modeEligible (md : Mode) (t : List Byte) : Prop :=
  match md with
  | .numeric => numericText t
  | .alphanumeric => alnumText t
  | .byte => True

/-- md is the mode attempted (R151): MODEREQ itself, or for MODEREQ = 0 numeric if the text is numeric,
else alphanumeric if it is alphanumeric, else byte. -/
def modeAttempted (modeReq : BitVec 2) (t : List Byte) (md : Mode) : Prop :=
  modeReq = md.code ∨
    (modeReq = 0 ∧
      match md with
      | .numeric => numericText t
      | .alphanumeric => ¬ numericText t ∧ alnumText t
      | .byte => ¬ numericText t ∧ ¬ alnumText t)

/-- CCW(v, md) within scope (R57): "versions 1..9 use the first row and version 10 uses the second". -/
def countWidth (v : Nat) (md : Mode) : Nat :=
  match md with
  | .numeric => if v ≤ 9 then 10 else 12
  | .alphanumeric => if v ≤ 9 then 9 else 11
  | .byte => if v ≤ 9 then 8 else 16

/-- payloadBits(md, LEN): the formulas of R152. -/
def payloadLength (md : Mode) (len : Nat) : Nat :=
  match md with
  | .numeric => 10 * (len / 3) + if len % 3 = 0 then 0 else if len % 3 = 1 then 4 else 7
  | .alphanumeric => 11 * (len / 2) + 6 * (len % 2)
  | .byte => 8 * len

/-- L(v, md) (R152): the bits before the terminator. -/
def textBits (v : Nat) (md : Mode) (len : Nat) : Nat := 4 + countWidth v md + payloadLength md len

/-- fits(v, md) (R154), with NDATA read from the table of R55. -/
def fitsVersion (l : BitVec 2) (md : Mode) (len v : Nat) : Prop :=
  textBits v md len ≤ 8 * tableEntry ndataRows v l

/-- v is the version chosen (R155): the least of 1..10 that fits when VREQ = 0, else VREQ, which fits. -/
def versionChosen (vreq : Nat) (l : BitVec 2) (md : Mode) (len v : Nat) : Prop :=
  1 ≤ v ∧ v ≤ 10 ∧ fitsVersion l md len v ∧
    (vreq = v ∨ (vreq = 0 ∧ ∀ u, 1 ≤ u → u < v → ¬ fitsVersion l md len u))

/-! ### The bit-stream, from 41_bitstream.md R156 to R160 and 10_state.md R58 and R59 -/

/-- MODEIND(md) (R58). -/
def indicatorOf (md : Mode) : Nat :=
  match md with
  | .numeric => 1
  | .alphanumeric => 2
  | .byte => 4

/-- The ALNUM index of an alphanumeric byte: the table of R59. -/
def alnumValue (b : Byte) : Nat :=
  let x := b.toNat
  if 0x30 ≤ x ∧ x ≤ 0x39 then x - 0x30
  else if 0x41 ≤ x ∧ x ≤ 0x5A then 10 + (x - 0x41)
  else if x = 0x20 then 36 else if x = 0x24 then 37 else if x = 0x25 then 38
  else if x = 0x2A then 39 else if x = 0x2B then 40 else if x = 0x2D then 41
  else if x = 0x2E then 42 else if x = 0x2F then 43 else 44

/-- The decimal value of the digit at index i of a numeric text. -/
def digitAt (t : List Byte) (i : Nat) : Nat := (t.getD i 0).toNat - 0x30

/-- The ALNUM index of the character at index i. -/
def alnumAt (t : List Byte) (i : Nat) : Nat := alnumValue (t.getD i 0)

/-- Bit k of a byte sequence: "the first bit of each byte being its bit 7" (step 3 of R160). -/
def byteStreamBit (bytes : List Byte) (k : Nat) : Bool := (bytes.getD (k / 8) 0).getLsbD (7 - k % 8)

/-- The w bits from position p on are what `put(x, w)` appends (R156): the value x, which has w bits, most
significant bit first. -/
abbrev putAt (bytes : List Byte) (p x w : Nat) : Prop :=
  x < 2 ^ w ∧ ∀ k, k < w → byteStreamBit bytes (p + k) = x.testBit (w - 1 - k)

/-- The bits from position p on are the payload of the text in the mode (R157, R158, R159): every group of
three digits and the one or two digits left over; every pair of characters and the odd one; every byte. -/
def payloadAt (bytes : List Byte) (p : Nat) (md : Mode) (t : List Byte) : Prop :=
  let n := t.length
  match md with
  | .numeric =>
    (∀ j, 3 * j + 3 ≤ n → putAt bytes (p + 10 * j)
      (100 * digitAt t (3 * j) + 10 * digitAt t (3 * j + 1) + digitAt t (3 * j + 2)) 10) ∧
    (n % 3 = 2 → putAt bytes (p + 10 * (n / 3)) (10 * digitAt t (n - 2) + digitAt t (n - 1)) 7) ∧
    (n % 3 = 1 → putAt bytes (p + 10 * (n / 3)) (digitAt t (n - 1)) 4)
  | .alphanumeric =>
    (∀ j, 2 * j + 2 ≤ n → putAt bytes (p + 11 * j)
      (45 * alnumAt t (2 * j) + alnumAt t (2 * j + 1)) 11) ∧
    (n % 2 = 1 → putAt bytes (p + 11 * (n / 2)) (alnumAt t (n - 1)) 6)
  | .byte => ∀ i, i < n → putAt bytes (p + 8 * i) (t.getD i 0).toNat 8

/-- The header (R156), then the payload: what R156 to R159 put of an eligible text, bit by bit. -/
def textAt (bytes : List Byte) (v : Nat) (md : Mode) (t : List Byte) : Prop :=
  putAt bytes 0 (indicatorOf md) 4 ∧ putAt bytes 4 t.length (countWidth v md) ∧
    payloadAt bytes (4 + countWidth v md) md t

/-! ### Polynomials over GF(2^8), from 42_reed_solomon.md R180, R181 and 40_gf256.md R137 -/

/-- The value at x of the polynomial whose coefficients are given highest power first (Horner). -/
def polyEval (p : List Byte) (x : Byte) : Byte := p.foldl (fun acc c => gfmul acc x ^^^ c) 0

/-- The carry-less product of a and the low k bits of b, shifted and reduced by xtime: the product of
polynomials over GF(2) modulo 0x11D (R137), without the tables. -/
def shiftMul (a b : Byte) : Nat → Byte
  | 0 => 0
  | k + 1 => shiftMul a b k ^^^ (if b.getLsbD k then Nat.repeat xtime k a else 0)

/-! ### Blocks, from 42_reed_solomon.md R182, R183 -/

/-- The first group of (v, l): (count, codewords per block). -/
def firstGroup (v : Nat) (l : BitVec 2) : Nat × Nat := (vt v l).groups.headD (0, 0)

/-- k_b: the length of block b; the second group's blocks are one codeword longer (R183). -/
def blockLen (v : Nat) (l : BitVec 2) (b : Nat) : Nat :=
  if b < (firstGroup v l).1 then (firstGroup v l).2 else (firstGroup v l).2 + 1

/-- s_b: the sum of the lengths of blocks 0..b−1 (R182). -/
def blockStart (v : Nat) (l : BitVec 2) (b : Nat) : Nat := ((List.range b).map (blockLen v l)).sum

/-! ### Alignment centres, from 10_state.md R56 and 43_matrix.md R205 -/

/-- ALIGNPOS (R56). -/
def alignRow : List (List Nat) :=
  [[], [], [6, 18], [6, 22], [6, 26], [6, 30], [6, 34]] ++ [[6, 22, 38], [6, 24, 42], [6, 26, 46], [6, 28, 50]]

/-- (r, c) is a centre that is drawn (R205): "The test skips exactly (6, 6), (6, last) and (last, 6)". -/
abbrev drawnCentre (v r c : Nat) : Prop :=
  let pos := alignRow.getD v []
  let last := pos.getLastD 0
  r ∈ pos ∧ c ∈ pos ∧ ¬ (r = 6 ∧ c = 6) ∧ ¬ (r = 6 ∧ c = last) ∧ ¬ (r = last ∧ c = 6)

/-! ### Mask predicates and penalties, from 44_mask.md R230 to R235, on a grid as a function of (r, c) -/

/-- pred(m, r, c): the formulas of R230. -/
abbrev maskHolds (m : BitVec 3) (r c : Nat) : Prop :=
  (m = 0 ∧ (r + c) % 2 = 0) ∨ (m = 1 ∧ r % 2 = 0) ∨ (m = 2 ∧ c % 3 = 0) ∨ (m = 3 ∧ (r + c) % 3 = 0) ∨
  (m = 4 ∧ (r / 2 + c / 3) % 2 = 0) ∨ (m = 5 ∧ r * c % 2 + r * c % 3 = 0) ∨
  (m = 6 ∧ (r * c % 2 + r * c % 3) % 2 = 0) ∨ (m = 7 ∧ ((r + c) % 2 + r * c % 3) % 2 = 0)

/-- The sum of f over 0 … n − 1. -/
def sumUpTo (n : Nat) (f : Nat → Nat) : Nat := ((List.range n).map f).sum

/-- Cells i … i + k − 1 are a maximal run of equal cells of the line 0 … n − 1 (R232). -/
abbrev maximalRun (n : Nat) (line : Nat → Byte) (i k : Nat) : Prop :=
  i + k ≤ n ∧ (∀ j, j < k → line (i + j) = line i) ∧ (i = 0 ∨ line (i - 1) ≠ line i) ∧
    (i + k = n ∨ line (i + k) ≠ line i)

/-- The sum of a cost over the 2n lines: the rows left to right, the columns top to bottom. -/
def sumLines (n : Nat) (cell : Nat → Nat → Byte) (cost : (Nat → Byte) → Nat) : Nat :=
  sumUpTo n (fun r => cost fun c => cell r c) + sumUpTo n fun c => cost fun r => cell r c

/-- N1 (R232): a maximal run of length k ≥ 5 costs 3 + (k − 5). -/
def runSpec (n : Nat) (cell : Nat → Nat → Byte) : Nat :=
  sumLines n cell fun line => sumUpTo n fun i => sumUpTo (n + 1) fun k =>
    if 5 ≤ k ∧ maximalRun n line i k then 3 + (k - 5) else 0

/-- N2 (R233). -/
def blockSpec (n : Nat) (cell : Nat → Nat → Byte) : Nat :=
  sumUpTo (n - 1) fun r => sumUpTo (n - 1) fun c =>
    if cell r c = cell r (c + 1) ∧ cell r c = cell (r + 1) c ∧ cell r c = cell (r + 1) (c + 1) then 3
    else 0

/-- The window of the line at start s shows the pattern (R234). -/
abbrev shows (line : Nat → Byte) (s : Nat) (pattern : List Byte) : Prop :=
  ∀ j, j < 11 → line (s + j) = pattern.getD j 0

/-- N3 (R234), with PA and PB. -/
def windowSpec (n : Nat) (cell : Nat → Nat → Byte) : Nat :=
  sumLines n cell fun line => sumUpTo (n - 10) fun s =>
    if shows line s [1, 0, 1, 1, 1, 0, 1, 0, 0, 0, 0] ∨ shows line s [0, 0, 0, 0, 1, 0, 1, 1, 1, 0, 1]
    then 40 else 0

/-- D (R235): the number of dark cells. -/
def darkSpec (n : Nat) (cell : Nat → Nat → Byte) : Nat :=
  sumUpTo n fun r => sumUpTo n fun c => if cell r c = 1 then 1 else 0

/-- N4 (R235). Of the two differences of natural numbers one is 0, so their sum is the absolute value. -/
def balanceSpec (n : Nat) (cell : Nat → Nat → Byte) : Nat :=
  10 * (((100 * darkSpec n cell - 50 * (n * n)) + (50 * (n * n) - 100 * darkSpec n cell)) / (5 * (n * n)))

/-- score (R236). -/
def scoreSpec (n : Nat) (cell : Nat → Nat → Byte) : Nat :=
  runSpec n cell + blockSpec n cell + windowSpec n cell + balanceSpec n cell

/-- The masked grid (R231) of GRID and MASKMAP as a state holds them. -/
def State.maskedCell (s : State) (n : Nat) (m : BitVec 3) (r c : Nat) : Byte :=
  if s.mapCell n r c ≠ 0 ∧ maskHolds m r c then s.gridCell n r c ^^^ 1 else s.gridCell n r c

/-- The same (R231) for two grids held as rows. -/
def maskedAt (g mk : Grid) (m : BitVec 3) (r c : Nat) : Byte :=
  if Grid.at mk r c ≠ 0 ∧ maskHolds m r c then Grid.at g r c ^^^ 1 else Grid.at g r c

/-- SCORE1..SCORE4 hold the components of the grid. -/
abbrev State.scoresAre (t : State) (n : Nat) (cell : Nat → Nat → Byte) : Prop :=
  (t.score.get 0).toNat = runSpec n cell ∧ (t.score.get 1).toNat = blockSpec n cell ∧
    (t.score.get 2).toNat = windowSpec n cell ∧ (t.score.get 3).toNat = balanceSpec n cell

/-- The search of R237 and R242 over the masks of the grids `cells m` left its result in the registers of t:
the lowest mask of least score, every score, the winner's components and its score. -/
abbrev State.searched (t : State) (n : Nat) (cells : BitVec 3 → Nat → Nat → Byte) : Prop :=
  (∀ m, scoreSpec n (cells t.resolved.mask) ≤ scoreSpec n (cells m)) ∧
  (∀ m, m.toNat < t.resolved.mask.toNat → scoreSpec n (cells t.resolved.mask) < scoreSpec n (cells m)) ∧
  (∀ m : Fin 8, (t.pen.get m).toNat = scoreSpec n (cells (BitVec.ofNat 3 m.val))) ∧
  t.scoresAre n (cells t.resolved.mask) ∧ t.result.toNat = scoreSpec n (cells t.resolved.mask)

/-! ### Placement order, from 43_matrix.md R209 -/

/-- The right column of the k-th pair: n − 1, n − 3, …, 8, then 5, 3, 1. -/
def pairColumn (n k : Nat) : Nat := if 6 < n - 1 - 2 * k then n - 1 - 2 * k else n - 2 - 2 * k

/-- The row of step s of the k-th pair: upward in the first pair, downward in the next, alternating. -/
def pairRow (n k s : Nat) : Nat := if k % 2 = 0 then n - 1 - s else s

/-! ### Metadata cells, from 43_matrix.md R206 and R208 -/

/-- The cell that receives bit i of the first copy of the format word: column FA[i] of R206. -/
def faCell (i : Nat) : Nat × Nat :=
  (([(0, 8), (1, 8), (2, 8), (3, 8), (4, 8), (5, 8), (7, 8), (8, 8)] ++
    [(8, 7), (8, 5), (8, 4), (8, 3), (8, 2), (8, 1), (8, 0)] : List (Nat × Nat))).getD i (0, 0)

/-- Column FB[i] of R206: bits 0..7 in row 8 from the right edge, bits 8..14 in column 8 down to the bottom. -/
def fbCell (n i : Nat) : Nat × Nat :=
  (([(8, n - 1), (8, n - 2), (8, n - 3), (8, n - 4), (8, n - 5), (8, n - 6), (8, n - 7), (8, n - 8)] ++
    [(n - 7, 8), (n - 6, 8), (n - 5, 8), (n - 4, 8), (n - 3, 8), (n - 2, 8), (n - 1, 8)]
      : List (Nat × Nat))).getD i (0, 0)

/-- The cell that receives bit i of the version word in the top-right block (R208). -/
def versionCellRight (n i : Nat) : Nat × Nat := (i / 3, n - 11 + i % 3)

/-- The same in the bottom-left block (R208). -/
def versionCellLeft (n i : Nat) : Nat × Nat := (n - 11 + i % 3, i / 3)

/-! ### Format and version words, from 45_bch.md R261 and R263 -/

/-- The words of R261, row l, column m. -/
def formatRows : List (List Nat) :=
  [[0x77C4, 0x72F3, 0x7DAA, 0x789D, 0x662F, 0x6318, 0x6C41, 0x6976],
    [0x5412, 0x5125, 0x5E7C, 0x5B4B, 0x45F9, 0x40CE, 0x4F97, 0x4AA0]] ++
  [[0x355F, 0x3068, 0x3F31, 0x3A06, 0x24B4, 0x2183, 0x2EDA, 0x2BED],
    [0x1689, 0x13BE, 0x1CE7, 0x19D0, 0x0762, 0x0255, 0x0D0C, 0x083B]]

/-- fmt(l, m), read from R261. -/
def formatEntry (l : BitVec 2) (m : BitVec 3) : Nat := (formatRows.getD l.toNat []).getD m.toNat 0

/-- ver(v) for v = 7..10, read from R263; 0 below 7, as VERWORD takes it (R265). -/
def versionEntry (v : Nat) : Nat :=
  ([0, 0, 0, 0, 0, 0, 0, 0x07C94, 0x085BC, 0x09A99, 0x0A4D3] : List Nat).getD v 0

/-- The carry-less product of g and the low k bits of q. -/
def carrylessMul (g q : Nat) : Nat → Nat
  | 0 => 0
  | k + 1 => carrylessMul g q k ^^^ (if q.testBit k then g <<< k else 0)

/-! ### Lines of the assembler, from 30_encoding.md R106 -/

/-- A mnemonic and its operands, separated by commas. -/
def sourceLine (mnemonic : String) (ops : List (List Char)) : List Char :=
  mnemonic.toList ++ [' '] ++ (ops.intersperse [',', ' ']).flatten

/-- FMTBITS's level operand denotes l (R106). -/
abbrev denotesLevel (x : List Char) (l : Nat) : Prop :=
  (x = ['L'] ∧ l = 0) ∨ (x = ['M'] ∧ l = 1) ∨ (x = ['Q'] ∧ l = 2) ∨ (x = ['H'] ∧ l = 3) ∨
    numberValue x = some l

end Sys2Proof.Machine
end

