-- ==== Sys2Proof/Certificates/Slice0/Obligations.lean ====
section
/-! DEFINITION. The statements for the provers, from the numbered rules of spec/. -/

open Sys2Proof Sys2Proof.Machine

/-! ### Encoding (30_encoding.md) -/

/-- R101, R102, R106: no bit of an encoding is dropped. Every command whose operands fit their fields is
what its word decodes to. -/
def Obligations.DecodeOfEncodeIsTheCommand : Prop :=
  ∀ i : Instr, i.wellFormed = true → decode (encode i) = .ok i

/-- R100 to R103: a word that decodes is the word of the command it decodes to, and its operands fit. -/
def Obligations.EncodeOfDecodeIsTheWord : Prop :=
  ∀ (w : Word) (i : Instr), decode w = .ok i → i.wellFormed = true ∧ encode i = w

/-- R103: a word decodes to a row exactly when its bits under the row's mask are the row's match value;
at most one row matches a word; and each command has exactly one row. -/
def Obligations.WordsDecodeByMaskAndMatch : Prop :=
  (∀ (w : Word), ∀ row ∈ opcodeMap,
    (w &&& row.mask = row.matchWord ↔ ∃ i, decode w = .ok i ∧ i.mnemonic = row.mnemonic)) ∧
  (∀ (w : Word), ∀ row₁ ∈ opcodeMap, ∀ row₂ ∈ opcodeMap,
    w &&& row₁.mask = row₁.matchWord → w &&& row₂.mask = row₂.matchWord → row₁ = row₂) ∧
  ∀ i : Instr, ∃ row ∈ opcodeMap, row.mnemonic = i.mnemonic ∧
    ∀ row' ∈ opcodeMap, row'.mnemonic = i.mnemonic → row' = row

/-- R104: a word that matches no row is illegal; the engine records ILLEGAL_COMMAND and changes nothing
else; and every unlisted opcode is illegal. -/
def Obligations.UnmatchedWordsAreIllegalCommands : Prop :=
  (∀ w : Word, (∀ row ∈ opcodeMap, w &&& row.mask ≠ row.matchWord) →
    (∃ e, decode w = .error e) ∧
    ∀ s : State, s.phase = .busy 0 → s.cmd = w →
      step s = .next (s.failed (.plain .illegalCommand))) ∧
  ∀ w : Word, unlistedOpcode (w.toNat / 2 ^ 24) → ∀ row ∈ opcodeMap, w &&& row.mask ≠ row.matchWord

/-- R101, R102, R103: each operand is read from its own bits, at every value, unsigned and unscaled. The
word is written as the concatenation of its fields, high bits first. -/
def Obligations.OperandsStandInTheirFields : Prop :=
  (∀ a b : BitVec 8, decode (0x01#8 ++ 0#8 ++ a ++ b) = .ok (.gfmul a b)) ∧
  (∀ (a : BitVec 8) (e : BitVec 16), decode (0x02#8 ++ a ++ e) = .ok (.gfpow a e.toNat)) ∧
  (∀ i : BitVec 9, decode (0x03#8 ++ 0#15 ++ i) = .ok (.gfexp i.toNat)) ∧
  (∀ a : BitVec 8, decode (0x04#8 ++ 0#16 ++ a) = .ok (.gflog a)) ∧
  (∀ ec : BitVec 6, decode (0x20#8 ++ 0#18 ++ ec) = .ok (.rsgen ec.toNat)) ∧
  (∀ (len : BitVec 8) (ec : BitVec 6),
    decode (0x21#8 ++ 0#8 ++ len ++ 0#2 ++ ec) = .ok (.rsenc len.toNat ec.toNat)) ∧
  (∀ m : BitVec 3, decode (0x40#8 ++ 0#21 ++ m) = .ok (.applymask m)) ∧
  (∀ (l : BitVec 2) (m : BitVec 3), decode (0x50#8 ++ 0#19 ++ l ++ m) = .ok (.fmtbits l m)) ∧
  ∀ v : BitVec 6, decode (0x51#8 ++ 0#18 ++ v) = .ok (.verbits v.toNat)

/-- R106 and the vectors of 95_test_vectors.md: words of several families decode to their commands. -/
def Obligations.SpecWordsDecodeToTheirCommands : Prop :=
  decode 0x00000000 = .ok .nop ∧ decode 0x010053CA = .ok (.gfmul 0x53 0xCA) ∧
  decode 0x02020008 = .ok (.gfpow 2 8) ∧ decode 0x030000FE = .ok (.gfexp 254) ∧
  decode 0x11000000 = .ok .pack ∧ decode 0x21000107 = .ok (.rsenc 1 7) ∧
  decode 0x31000000 = .ok .placedata ∧ decode 0x40000006 = .ok (.applymask 6) ∧
  decode 0x50000016 = .ok (.fmtbits 2 6) ∧ decode 0x51000007 = .ok (.verbits 7) ∧
  decode 0x60000000 = .ok .encode

/-- R106: a word the assembler emits is the word of a command whose operands fit their fields, so it decodes.
The line of a mnemonic and its operands assembles to the word of R106's table made of exactly these operands
when each fits its field, and to no word when one does not. Numbers are decimal, or hexadecimal after `0x`;
FMTBITS takes a letter for the level. (That an operand follows its comma and one blank is a line of log 14.) -/
def Obligations.AssemblerEmitsOnlyLegalWords : Prop :=
  (∀ (line : List Char) (w : Word), assemble line = some w →
    ∃ i, i.wellFormed = true ∧ encode i = w ∧ decode w = .ok i) ∧
  (∀ (mnemonic : String) (ops : List (List Char)) (i : Instr),
    assembleInstr mnemonic ops = some i → i.mnemonic = mnemonic) ∧
  (∀ row ∈ opcodeMap, row.mask = 0xFFFFFFFF →
    assemble row.mnemonic.toList = some row.matchWord) ∧
  (∀ (x : List Char) (a : Nat), numberValue x = some a →
    assemble (sourceLine "GFEXP" [x]) =
      (if a < 2 ^ 9 then some (BitVec.ofNat 32 (0x03000000 + a)) else none) ∧
    assemble (sourceLine "GFLOG" [x]) =
      (if a < 2 ^ 8 then some (BitVec.ofNat 32 (0x04000000 + a)) else none) ∧
    assemble (sourceLine "RSGEN" [x]) =
      (if a < 2 ^ 6 then some (BitVec.ofNat 32 (0x20000000 + a)) else none) ∧
    assemble (sourceLine "APPLYMASK" [x]) =
      (if a < 2 ^ 3 then some (BitVec.ofNat 32 (0x40000000 + a)) else none) ∧
    assemble (sourceLine "VERBITS" [x]) =
      (if a < 2 ^ 6 then some (BitVec.ofNat 32 (0x51000000 + a)) else none)) ∧
  (∀ (x y : List Char) (a b : Nat), numberValue x = some a → numberValue y = some b →
    assemble (sourceLine "GFMUL" [x, y]) =
      (if a < 2 ^ 8 ∧ b < 2 ^ 8 then some (BitVec.ofNat 32 (0x01000000 + a * 2 ^ 8 + b)) else none) ∧
    assemble (sourceLine "GFPOW" [x, y]) =
      (if a < 2 ^ 8 ∧ b < 2 ^ 16 then some (BitVec.ofNat 32 (0x02000000 + a * 2 ^ 16 + b)) else none) ∧
    assemble (sourceLine "RSENC" [x, y]) =
      (if a < 2 ^ 8 ∧ b < 2 ^ 6 then some (BitVec.ofNat 32 (0x21000000 + a * 2 ^ 8 + b)) else none)) ∧
  (∀ (x y : List Char) (l m : Nat), denotesLevel x l → numberValue y = some m →
    assemble (sourceLine "FMTBITS" [x, y]) =
      (if l < 2 ^ 2 ∧ m < 2 ^ 3 then some (BitVec.ofNat 32 (0x50000000 + l * 2 ^ 3 + m)) else none)) ∧
  ∀ n : Nat, numberValue (Nat.toDigits 10 n) = some n ∧
    numberValue ('0' :: 'x' :: Nat.toDigits 16 n) = some n

/-! ### The step -/

/-- R301, R305: when the latency of the command in flight has passed, a step is the command's own effect;
in the state that `withFetchWord` gives (a word just accepted, log 6), it is the effect of the command the word
decodes to. -/
def Obligations.StepRunsTheDecodedCommand : Prop :=
  (∀ (s : State) (i : Instr), s.phase = .busy 0 → decode s.cmd = .ok i → step s = exec i s) ∧
  ∀ (s : State) (nbits w : Nat) (i : Instr), decodeTableWord nbits w = some i →
    step (s.withFetchWord nbits w) = exec i (s.withFetchWord nbits w)

/-- R305, R316, R357: in every other cycle the host performs at most one operation, the first it has; a
cycle of the latency passes while BUSY; and an idle block whose host does nothing keeps its state. That one
step is one cycle with at most one operation of the list `hostOps` is the model's choice (log 5, 6). -/
def Obligations.HostActsAtMostOncePerCycle : Prop :=
  (∀ s : State, s.phase = .idle → s.hostOps = [] → step s = .next s) ∧
  (∀ (s : State) (op : HostOp) (rest : List HostOp), s.phase = .idle → s.hostOps = op :: rest →
    step s = .next (perform op { s with hostOps := rest })) ∧
  (∀ (s : State) (k : Nat), s.phase = .busy (k + 1) → s.hostOps = [] →
    step s = .next { s with phase := .busy k }) ∧
  ∀ (s : State) (k : Nat) (op : HostOp) (rest : List HostOp), s.phase = .busy (k + 1) →
    s.hostOps = op :: rest →
    step s = .next (perform op { s with phase := .busy k, hostOps := rest })

/-- No step stops: whatever the state, the block answers a next one. That every error of R300 is recorded and
the block goes on (R303, R306) is read as this by the model's own inference (log 20). -/
def Obligations.EveryStepAnswersANextState : Prop :=
  ∀ s : State, ∃ t, step s = .next t

/-- R356: every accepted command completes after a finite time. The bound is the model's choice: PHASE holds
the cycles left of the latency (log 4) and the completion takes one step more (log 5), so within that many
steps PHASE is IDLE, whatever the host does meanwhile. -/
def Obligations.EveryCommandInFlightCompletes : Prop :=
  ∀ (s : State) (k : Nat), s.phase = .busy k →
    ∃ j t, j ≤ k + 1 ∧ Host.Core.run Sys2Proof.core j s = .next t ∧
      Sys2Proof.Machine.State.phase t = .idle

/-- R302, R303, R305: a command ends in one of two ways. It completes: DONE is set, PHASE is IDLE and the
other STATUS fields stay. Or it raises one error: the state is the one before it but for PHASE and the
recorded error, which carries a mode and level only for CAPACITY_EXCEEDED. Either way IRQ is high if IE = 1.
An error is recorded whole when ERR was 0; with ERR = 1 only MULTI is set and the first error is kept. The
codes are those of R300. -/
def Obligations.CommandsCompleteOrFailPrecisely : Prop :=
  (∀ (i : Instr) (s : State), ∃ t, exec i s = .next t ∧ (s.config.ie = true → t.irq = true) ∧
    (s.completedTo t ∨
      ∃ e : CmdError, (e.code ≠ .capacityExceeded → e.mode = 0 ∧ e.ecl = 0) ∧ t = s.failed e)) ∧
  ∀ (st : StatusReg) (e : CmdError),
    (st.err = false → st.record e =
      { st with err := true, errCode := e.code.code, errMode := e.mode, errEcl := e.ecl }) ∧
    (st.err = true → st.record e = { st with multi := true }) ∧
    [ErrCode.capacityExceeded, .illegalCommand, .badOperand, .badConfig, .modeIneligible, .badCell,
      .busyWrite, .badAccess].map ErrCode.code = [0x01, 0x02, 0x03, 0x04, 0x05, 0x06, 0x07, 0x08]

/-! ### The host's accesses (20_memory.md, 60_exceptions.md, 70_reset_and_hazards.md) -/

/-- R74: the legal accesses are the 4-byte ones at the 4-aligned offset of a defined register and the
1-byte ones inside a buffer; every other access is illegal and raises BAD_ACCESS. So does a write to a
read-only register, by the row "Illegal host accesses" of 93_implementation_defined.md, which the model takes
over R74's silence and R352's list (log 9): the register writes that are legal are those to CONFIG, TEXTLEN,
CMD, STATUS and RESOLVED. -/
def Obligations.LegalAccessesAreThoseOfTheMap : Prop :=
  (∀ (off : Offset) (w : Width),
    ((target off w).isSome = true ↔
      (w = .word ∧ off.toNat % 4 = 0 ∧ off.toNat < 0x70 ∧ off.toNat ≠ 0x3C) ∨
      (w = .byte ∧ ((0x1000 ≤ off.toNat ∧ off.toNat < 0x1940) ∨ 0x2000 ≤ off.toNat))) ∧
    ∀ (v : Word) (s : State), (target off w).isSome = false →
      (hostRead off w s).status = s.status.record (.plain .badAccess) ∧
      (hostWrite off w v s).status = s.status.record (.plain .badAccess)) ∧
  ∀ (off : Offset) (w : Width),
    ((writable off w).isSome = true ↔
      (w = .word ∧ off.toNat ∈ [0x004, 0x008, 0x00C, 0x010, 0x018]) ∨
      (w = .byte ∧ ((0x1000 ≤ off.toNat ∧ off.toNat < 0x1940) ∨ 0x2000 ≤ off.toNat))) ∧
    ((writable off w).isSome = true → writable off w = target off w) ∧
    ∀ (v : Word) (s : State), (writable off w).isSome = false →
      (hostWrite off w v s).status = s.status.record (.plain .badAccess)

/-- R75: an illegal read returns 0, an illegal write has no effect; the error is recorded, ERRCODE only
when ERR was 0 and MULTI otherwise; nothing else changes, the command in flight included. (Which accesses are
illegal is O13's.) -/
def Obligations.IllegalAccessesRecordBadAccess : Prop :=
  ∀ (off : Offset) (w : Width) (v : Word) (s : State),
    (target off w = none → writable off w = none) ∧
    (target off w = none → s.status.err = false →
      hostRead off w s = { s with
        status := { s.status with err := true, errCode := 0x08, errMode := 0, errEcl := 0 }
        reply := some 0 }) ∧
    (target off w = none → s.status.err = true →
      hostRead off w s = { s with status := { s.status with multi := true }, reply := some 0 }) ∧
    (writable off w = none → s.status.err = false →
      hostWrite off w v s = { s with
        status := { s.status with err := true, errCode := 0x08, errMode := 0, errEcl := 0 } }) ∧
    (writable off w = none → s.status.err = true →
      hostWrite off w v s = { s with status := { s.status with multi := true } })

/-- R352: while BUSY, ID and STATUS read exactly and any other legal read is a fresh draw without a side
effect (the draw counter is the model's own, log 3); a legal write to STATUS acts on its W1C bits, any
other legal write is dropped and recorded as BUSY_WRITE; an illegal access is a BAD_ACCESS. A write to a
read-only register is a BAD_ACCESS here as while IDLE, since legality is checked first (R305): R352's own list
names it a BUSY_WRITE, 93_implementation_defined.md an illegal access, and the model takes the latter (log 9). -/
def Obligations.AccessesWhileBusy : Prop :=
  ∀ (off : Offset) (w : Width) (v : Word) (s : State) (k : Nat), s.phase = .busy k →
    (target off w = some (.reg .id) → hostRead off w s = { s with reply := some 0x51524B31 }) ∧
    (target off w = some (.reg .status) →
      hostRead off w s = { s with reply := some (s.status.word true) } ∧
      hostWrite off w v s = { s with status := s.status.w1c v }) ∧
    (∀ r, target off w = some (.reg r) → r ≠ .id → r ≠ .status →
      hostRead off w s =
        { s with reply := some (Config.busyRead s.busyDraws), busyDraws := s.busyDraws + 1 }) ∧
    (∀ a, target off w = some (.cell a) →
      (∃ b : Byte, hostRead off w s =
        { s with reply := some (b.setWidth 32), busyDraws := s.busyDraws + 1 }) ∧
      hostWrite off w v s = { s with status := s.status.record (.plain .busyWrite) }) ∧
    (∀ r, target off w = some (.reg r) → r ∈ [.config, .textLen, .cmd, .resolved] →
      hostWrite off w v s = { s with status := s.status.record (.plain .busyWrite) }) ∧
    (∀ r, target off w = some (.reg r) → r ∉ [.config, .textLen, .cmd, .status, .resolved] →
      hostWrite off w v s = { s with status := s.status.record (.plain .badAccess) }) ∧
    (target off w = none →
      hostRead off w s =
        { s with status := s.status.record (.plain .badAccess), reply := some 0 } ∧
      hostWrite off w v s = { s with status := s.status.record (.plain .badAccess) })

/-- R301: a CMD write is BUSY_WRITE while BUSY; with ERR = 1 it is dropped and sets MULTI; else it is
accepted, and when its latency (R356; a list in the state, log 4) has passed the engine runs the command
of a legal word and raises ILLEGAL_COMMAND for any other. -/
def Obligations.CommandAcceptance : Prop :=
  (∀ (w : Word) (s : State) (k : Nat), s.phase = .busy k →
    hostWrite 0x00C .word w s = { s with status := s.status.record (.plain .busyWrite) }) ∧
  (∀ (w : Word) (s : State), s.phase = .idle → s.status.err = true →
    hostWrite 0x00C .word w s = { s with status := { s.status with multi := true } }) ∧
  (∀ (w : Word) (s : State), s.phase = .idle → s.status.err = false →
    hostWrite 0x00C .word w s = { s with
      cmd := w
      status := { s.status with done := false }
      phase := .busy (s.cmdLatency.headD 0)
      cmdLatency := s.cmdLatency.tail }) ∧
  ∀ s : State, s.phase = .busy 0 →
    (∀ i, decode s.cmd = .ok i → step s = exec i s) ∧
    (∀ e, decode s.cmd = .error e → step s = .next (s.failed (.plain .illegalCommand)))

/-- R307, R30: a host write to STATUS, in either phase, clears ERR, MULTI, ERRCODE, ERRMODE and ERRECL
together when its bit 2 is 1, clears DONE when its bit 1 is 1, and does nothing else. -/
def Obligations.StatusWritesClearByOnes : Prop :=
  ∀ (v : Word) (s : State), ∃ t, hostWrite 0x010 .word v s = t ∧ t = { s with status := t.status } ∧
    t.status.done = (s.status.done && !v.getLsbD 1) ∧
    (v.getLsbD 2 = true → t.status.err = false ∧ t.status.multi = false ∧ t.status.errCode = 0 ∧
      t.status.errMode = 0 ∧ t.status.errEcl = 0) ∧
    (v.getLsbD 2 = false → t.status.err = s.status.err ∧ t.status.multi = s.status.multi ∧
      t.status.errCode = s.status.errCode ∧ t.status.errMode = s.status.errMode ∧
      t.status.errEcl = s.status.errEcl)

/-- R30: the places of the fields in the word STATUS reads as; bits [7:4] and [31:20] read 0 and BUSY reads
PHASE. -/
def Obligations.StatusReadsItsFields : Prop :=
  ∀ s : State,
    (s.statusWord.getLsbD 0 = true ↔ s.phase ≠ .idle) ∧ s.statusWord.getLsbD 1 = s.status.done ∧
    s.statusWord.getLsbD 2 = s.status.err ∧ s.statusWord.getLsbD 3 = s.status.multi ∧
    s.statusWord.extractLsb' 4 4 = 0 ∧ s.statusWord.extractLsb' 8 8 = s.status.errCode ∧
    s.statusWord.extractLsb' 16 2 = s.status.errMode ∧
    s.statusWord.extractLsb' 18 2 = s.status.errEcl ∧ s.statusWord.extractLsb' 20 12 = 0

/-- R27, R28, R32, R72: an idle write to CONFIG, TEXTLEN or RESOLVED stores exactly the non-reserved bits,
which read back with the reserved bits 0, and writes nothing else. -/
def Obligations.RwRegistersKeepTheirFields : Prop :=
  ∀ (v : Word) (s : State), s.phase = .idle →
    (∃ c, hostWrite 0x004 .word v s = { s with config := c } ∧
      (hostWrite 0x004 .word v s).readReg .config = v &&& 0x00013FF3) ∧
    (∃ n, hostWrite 0x008 .word v s = { s with textLen := n } ∧
      (hostWrite 0x008 .word v s).readReg .textLen = v &&& 0x0000FFFF) ∧
    (∃ r, hostWrite 0x018 .word v s = { s with resolved := r } ∧
      (hostWrite 0x018 .word v s).readReg .resolved = v &&& 0x0000073F)

/-- R25, R26, R71, R72: a read-only register ignores a write, in either phase: nothing changes but STATUS,
which records a BAD_ACCESS by the row "Illegal host accesses" of 93_implementation_defined.md (the model's
choice between the spec's files, log 9). An idle read of each register answers the value of its own fields in
their places and changes nothing; ID always reads 0x51524B31, in either phase. -/
def Obligations.ReadOnlyRegistersIgnoreWrites : Prop :=
  (∀ (off : Offset) (v : Word) (s : State) (r : Reg),
    target off .word = some (.reg r) → r ∉ [.config, .textLen, .cmd, .status, .resolved] →
    hostWrite off .word v s = { s with status := s.status.record (.plain .badAccess) } ∧
    ∀ q, q ≠ .status → (hostWrite off .word v s).readReg q = s.readReg q) ∧
  (∀ s : State, hostRead 0x000 .word s = { s with reply := some 0x51524B31 }) ∧
  ∀ s : State, s.phase = .idle →
    (∀ p ∈ ([
        (0x004, BitVec.ofNat 32 (s.config.ecl.toNat + 2 ^ 4 * s.config.vreq.toNat +
          2 ^ 8 * s.config.mreq.toNat + 2 ^ 12 * s.config.modeReq.toNat +
          2 ^ 16 * s.config.ie.toNat)),
        (0x008, BitVec.ofNat 32 s.textLen.toNat), (0x00C, s.cmd), (0x010, s.statusWord),
        (0x014, s.result),
        (0x018, BitVec.ofNat 32 (s.resolved.ver.toNat + 2 ^ 4 * s.resolved.mode.toNat +
          2 ^ 8 * s.resolved.mask.toNat)),
        (0x01C, BitVec.ofNat 32 s.bitLen.toNat), (0x020, BitVec.ofNat 32 s.format.toNat),
        (0x024, BitVec.ofNat 32 s.verWord.toNat), (0x028, s.readReg .size),
        (0x02C, s.readReg .ndata), (0x030, s.readReg .ntotal), (0x034, s.readReg .ecpb),
        (0x038, s.readReg .nblocks)] : List (Offset × Word)),
      hostRead p.1 .word s = { s with reply := some p.2 }) ∧
    (∀ m : Fin 8, hostRead (BitVec.ofNat 14 (0x040 + 4 * m.val)) .word s =
      { s with reply := some (s.pen.get m) }) ∧
    ∀ k : Fin 4, hostRead (BitVec.ofNat 14 (0x060 + 4 * k.val)) .word s =
      { s with reply := some (s.score.get k) }

/-- R33, R34, R54, R55: SIZE, NDATA, NTOTAL, ECPB and NBLOCKS read 0 without a supported version; else
17 + 4·VER, the numbers of the tables of R55 and R54, and the sums over VT's groups; NTOTAL depends on the
version only. -/
def Obligations.CombinationalRegistersFollowTheTables : Prop :=
  ∀ s : State,
    (s.noVersion → s.readReg .size = 0 ∧ s.readReg .ndata = 0 ∧ s.readReg .ntotal = 0 ∧
      s.readReg .ecpb = 0 ∧ s.readReg .nblocks = 0) ∧
    ∀ v, s.atVersion v →
      (s.readReg .size).toNat = 17 + 4 * v ∧
      (s.readReg .ndata).toNat = tableEntry ndataRows v s.config.ecl ∧
      (s.readReg .ecpb).toNat = tableEntry ecRows v s.config.ecl ∧
      (s.readReg .nblocks).toNat = tableEntry blockRows v s.config.ecl ∧
      (s.readReg .ntotal).toNat = ntotalRow.getD v 0 ∧
      (s.readReg .ndata).toNat = ((vt v s.config.ecl).groups.map fun g => g.1 * g.2).sum ∧
      (s.readReg .nblocks).toNat = ((vt v s.config.ecl).groups.map fun g => g.1).sum ∧
      (s.readReg .ecpb).toNat = (vt v s.config.ecl).ec ∧
      (s.readReg .ntotal).toNat =
        (s.readReg .ndata).toNat + (vt v s.config.ecl).ec * (s.readReg .nblocks).toNat

/-- R71, R72, R80: an idle byte read of a buffer answers the byte, zero-extended, and changes nothing; an idle
byte write to a buffer stores v[7:0], which the next read returns; every other byte and every register
stays. -/
def Obligations.BufferBytesReadBackAsWritten : Prop :=
  ∀ (off : Offset) (v : Word) (s : State), s.phase = .idle → inBuffer off.toNat = true →
    hostRead off .byte s = { s with reply := some ((s.readByte off.toNat).setWidth 32) } ∧
    ∃ t, hostWrite off .byte v s = t ∧ t = { s with mem := t.mem } ∧
      t.readByte off.toNat = v.setWidth 8 ∧ (∀ a, a ≠ off.toNat → t.readByte a = s.readByte a) ∧
      hostRead off .byte t = { t with reply := some ((v.setWidth 8).setWidth 32) }

/-- R341: every register's value after reset, IRQ low, and every buffer byte at its BUF_INIT draw. -/
def Obligations.ResetLeavesTheStatedValues : Prop :=
  State.reset.phase = .idle ∧ State.reset.readReg .id = 0x51524B31 ∧
  State.reset.readReg .config = 0x00000801 ∧ State.reset.readReg .textLen = 0 ∧
  State.reset.readReg .cmd = 0 ∧ State.reset.readReg .status = 0 ∧ State.reset.readReg .result = 0 ∧
  State.reset.readReg .resolved = 0 ∧ State.reset.readReg .bitLen = 0 ∧
  State.reset.readReg .format = 0 ∧ State.reset.readReg .verWord = 0 ∧
  State.reset.readReg .size = 0 ∧ State.reset.readReg .ndata = 0 ∧ State.reset.readReg .ntotal = 0 ∧
  State.reset.readReg .ecpb = 0 ∧ State.reset.readReg .nblocks = 0 ∧
  (∀ m, State.reset.readReg (.pen m) = 0) ∧ (∀ k, State.reset.readReg (.score k) = 0) ∧
  State.reset.irq = false ∧ State.reset.config.ie = false ∧
  ∀ off, State.reset.readByte off = Config.bufInit State.reset.bufEpoch off

/-- R340: the reset input, from any state in which no completion is due, leaves every register at its reset
value and PHASE idle, abandons a command in flight, and leaves each buffer byte at a new draw (that the
draw is a new one, and that the host's own fields stay, are the choices of log 2 and 13). -/
def Obligations.ResetInputRestoresRegisters : Prop :=
  ∀ (s : State) (rest : List HostOp), s.phase ≠ .busy 0 → s.hostOps = .reset :: rest →
    ∃ t, step s = .next t ∧ t.phase = .idle ∧ t.hostOps = rest ∧
      (∀ r, t.readReg r = State.reset.readReg r) ∧
      ∀ off, t.readByte off = Config.bufInit (s.bufEpoch + 1) off

/-- R62: IRQ = CONFIG.IE & (STATUS.DONE | STATUS.ERR); it is 0 after reset, and it falls when DONE and ERR
are cleared by W1C, or IE is cleared. -/
def Obligations.IrqFollowsEnableAndStatus : Prop :=
  (∀ s : State, s.irq = true ↔ s.config.ie = true ∧ (s.status.done = true ∨ s.status.err = true)) ∧
  State.reset.irq = false ∧
  (∀ (v : Word) (s : State), v.getLsbD 1 = true → v.getLsbD 2 = true →
    (hostWrite 0x010 .word v s).irq = false) ∧
  ∀ (v : Word) (s : State), s.phase = .idle → v.getLsbD 16 = false →
    (hostWrite 0x004 .word v s).irq = false

/-! ### Invariants -/

/-- The invariant holds after reset. -/
def Obligations.ResetSatisfiesTheInvariant : Prop := State.reset.inv

/-- Every step keeps the invariant: the memory stays canonical and holds buffer bytes only (R70, R77),
STATUS stays coherent (R30, R300, R303), and DONE is 0 while a command is in flight (R301). -/
def Obligations.EveryStepKeepsTheInvariant : Prop :=
  ∀ s t : State, s.inv → step s = .next t → t.inv

/-! ### GF(2^8) (40_gf256.md) -/

/-- R130: NOP changes nothing besides completion. Its word is 0x00000000, and a nonzero bit [23:0] makes the
word illegal. CMD resets to the NOP word, but reset does not issue it. -/
def Obligations.NopOnlyCompletes : Prop :=
  decode 0x00000000 = .ok .nop ∧
  (∀ w : Word, w.toNat < 2 ^ 24 → w ≠ 0 → ∃ e, decode w = .error e) ∧
  (∀ s : State, exec .nop s =
    .next { s with phase := .idle, status := { s.status with done := true } }) ∧
  State.reset.cmd = 0x00000000 ∧ State.reset.phase = .idle ∧ State.reset.status.done = false

/-- R131, R135: GFMUL, with A in [15:8] and B in [7:0] of its word, writes gfmul(A, B) to RESULT,
zero-extended, and nothing else; the table index is at most 508; a zero operand gives 0 and A = 1 gives B. -/
def Obligations.GfmulWritesTheProduct : Prop :=
  ∀ (a b : Byte) (s : State), decode (0x01#8 ++ 0#8 ++ a ++ b) = .ok (.gfmul a b) ∧
    gfLog a + gfLog b ≤ 508 ∧
    ∃ t, exec (.gfmul a b) s = .next t ∧ s.completedTo t ∧ onlyResult s t ∧
      t.result = (if a = 0 ∨ b = 0 then (0 : Byte) else gfExp (gfLog a + gfLog b)).setWidth 32 ∧
      (a = 0 ∨ b = 0 → t.result = 0) ∧ (a = 1 → t.result = b.setWidth 32)

/-- R132, R136: GFPOW, with A in [23:16] and E in [15:0] of its word, writes gfpow(A, E) to RESULT and nothing
else; E = 0 gives 1 even for A = 0, A = 0 with E > 0 gives 0, and E = 255 or 65535 gives 1 for A ≠ 0. -/
def Obligations.GfpowWritesThePower : Prop :=
  (∀ (a : Byte) (e : BitVec 16), decode (0x02#8 ++ a ++ e) = .ok (.gfpow a e.toNat)) ∧
  ∀ (a : Byte) (e : Nat) (s : State), ∃ t, exec (.gfpow a e) s = .next t ∧ s.completedTo t ∧
    onlyResult s t ∧
    t.result =
      (if e = 0 then (1 : Byte) else if a = 0 then 0 else gfExp (gfLog a * e % 255)).setWidth 32 ∧
    (e = 0 → t.result = 1) ∧ (a = 0 → 0 < e → t.result = 0) ∧
    (a ≠ 0 → e = 255 ∨ e = 65535 → t.result = 1)

/-- R133, R50: GFEXP, with I in [8:0] of its word, writes EXP[I] to RESULT and nothing else, where EXP is the
table of R50: it starts at 1, each entry up to 254 is xtime of the one before, and from 255 on it repeats. -/
def Obligations.GfexpReadsTheExponentTable : Prop :=
  (∀ i : BitVec 9, decode (0x03#8 ++ 0#15 ++ i) = .ok (.gfexp i.toNat)) ∧
  (∀ (i : Nat) (s : State), i < 512 → ∃ t, exec (.gfexp i) s = .next t ∧ s.completedTo t ∧
    onlyResult s t ∧ t.result = (gfExp i).setWidth 32) ∧
  gfExp 0 = 1 ∧ (∀ i, 1 ≤ i → i ≤ 254 → gfExp i = xtime (gfExp (i - 1))) ∧
  (∀ i, 255 ≤ i → i ≤ 511 → gfExp i = gfExp (i - 255)) ∧
  ∀ a : Byte, (xtime a).toNat =
    (2 * a.toNat ^^^ (if 128 ≤ a.toNat then 0x11D else 0)) % 256

/-- R134, R51: GFLOG, with A in [7:0] of its word, for A ≠ 0 writes to RESULT the unique i in 0..254 with
EXP[i] = A and nothing else; GFLOG of 0 is BAD_OPERAND and leaves RESULT; GFLOG of 1 gives 0. -/
def Obligations.GflogInvertsTheExponentTable : Prop :=
  ∀ (a : Byte) (s : State), decode (0x04#8 ++ 0#16 ++ a) = .ok (.gflog a) ∧
    (a = 0 → exec (.gflog a) s = .next (s.failed (.plain .badOperand))) ∧
    (a ≠ 0 → ∃ t, exec (.gflog a) s = .next t ∧ s.completedTo t ∧ onlyResult s t ∧
      t.result.toNat ≤ 254 ∧ gfExp t.result.toNat = a ∧
      (∀ i, i ≤ 254 → gfExp i = a → i = t.result.toNat) ∧ (a = 1 → t.result = 0))

/-- R137: the table-driven product is the product of polynomials over GF(2) modulo 0x11D, computed by
shifting and adding without any table. -/
def Obligations.GfmulIsThePolynomialProduct : Prop :=
  ∀ a b : Byte, gfmul a b = shiftMul a b 8

/-- R137: the field laws that R137 lists. -/
def Obligations.FieldLawsHold : Prop :=
  (∀ a b : Byte, gfmul a b = gfmul b a) ∧
  (∀ a b c : Byte, gfmul (gfmul a b) c = gfmul a (gfmul b c)) ∧
  (∀ a b c : Byte, gfmul a (b ^^^ c) = gfmul a b ^^^ gfmul a c) ∧
  (∀ a : Byte, gfmul 1 a = a ∧ gfmul 0 a = 0) ∧
  (∀ a : Byte, a ≠ 0 → gfmul a (gfExp ((255 - gfLog a) % 255)) = 1 ∧ gfpow a 255 = 1) ∧
  (∀ (a : Byte) (e : Nat), gfpow a 0 = 1 ∧ gfpow a (e + 1) = gfmul (gfpow a e) a) ∧
  ∀ i : Nat, gfpow 2 i = gfExp (i % 255)

/-! ### Mode, version and bit-stream (41_bitstream.md) -/

/-- R151, R153, R155, R161: SELECT's checks in order, each with its error, and on success the mode attempted,
the version chosen and the bit length of R152; RESOLVED.MASK and everything else stays. -/
def Obligations.SelectChoosesModeAndVersion : Prop :=
  ∀ s : State,
    (10 < s.config.vreq.toNat → exec .select s = .next (s.failed (.plain .badConfig))) ∧
    (s.config.vreq.toNat ≤ 10 → 1024 < s.textLen.toNat →
      exec .select s = .next (s.failed (.capacity s.config.modeReq s.config.ecl))) ∧
    ∀ md, s.config.vreq.toNat ≤ 10 → s.textLen.toNat ≤ 1024 →
      modeAttempted s.config.modeReq s.text md →
      (¬ modeEligible md s.text → exec .select s = .next (s.failed (.plain .modeIneligible))) ∧
      (modeEligible md s.text →
        (∀ v, versionChosen s.config.vreq.toNat s.config.ecl md s.textLen.toNat v →
          ∃ t, exec .select s = .next t ∧ s.completedTo t ∧ sameBytes s t ∧
            t = { s with resolved := t.resolved, bitLen := t.bitLen, status := t.status,
                         phase := t.phase } ∧
            t.resolved.ver.toNat = v ∧ t.resolved.mode = md.code ∧
            t.resolved.mask = s.resolved.mask ∧
            t.bitLen.toNat = textBits v md s.textLen.toNat) ∧
        ((∀ v, ¬ versionChosen s.config.vreq.toNat s.config.ecl md s.textLen.toNat v) →
          exec .select s = .next (s.failed (.capacity md.code s.config.ecl))))

/-- R162: PACK's checks in order, and on success the NDATA data codewords in DATACW and the bit length;
DATACW from NDATA on and everything else stays. -/
def Obligations.PackStoresTheDataCodewords : Prop :=
  ∀ s : State,
    (s.noVersion ∨ s.resolved.mode = 0 → exec .pack s = .next (s.failed (.plain .badConfig))) ∧
    ∀ v md, s.atVersion v → s.resolved.mode = md.code →
      (1024 < s.textLen.toNat → exec .pack s = .next (s.failed (.capacity md.code s.config.ecl))) ∧
      (s.textLen.toNat ≤ 1024 → ¬ modeEligible md s.text →
        exec .pack s = .next (s.failed (.plain .modeIneligible))) ∧
      (s.textLen.toNat ≤ 1024 → modeEligible md s.text →
        ¬ fitsVersion s.config.ecl md s.textLen.toNat v →
        exec .pack s = .next (s.failed (.capacity md.code s.config.ecl))) ∧
      (s.textLen.toNat ≤ 1024 → modeEligible md s.text →
        fitsVersion s.config.ecl md s.textLen.toNat v →
        ∃ t, exec .pack s = .next t ∧ s.completedTo t ∧
          t = { s with mem := t.mem, bitLen := t.bitLen, status := t.status, phase := t.phase } ∧
          t.readBytes 0x1400 (ndata v s.config.ecl) = dataCw s.text md v s.config.ecl ∧
          t.bitLen.toNat = textBits v md s.textLen.toNat ∧
          sameBytesOutside s t 0x1400 (ndata v s.config.ecl))

/-- R160: the data codewords of a text that fits are exactly NDATA bytes: the stream's bits, most
significant first, then zero bits for the terminator and the alignment, then 0xEC, 0x11, …. The stream of an
eligible text is that of R156 to R159, written out in Safety.lean with the tables of R57, R58 and R59: the
mode indicator, the count, then the digits by threes, the characters by pairs, or the bytes. -/
def Obligations.DataCodewordsFillTheCapacity : Prop :=
  ∀ (t : List Byte) (md : Mode) (v : Nat) (l : BitVec 2), 1 ≤ v → v ≤ 10 →
    fitsVersion l md t.length v →
    let out := dataCw t md v l
    let len := textBits v md t.length
    let total := tableEntry ndataRows v l
    let used := (len + min 4 (8 * total - len) + 7) / 8
    (modeEligible md t → textAt out v md t) ∧
    (streamOf v md t).length = len ∧ out.length = total ∧ ndata v l = total ∧ used ≤ total ∧
    (∀ k, k < len → byteStreamBit out k = (streamOf v md t).getD k false) ∧
    (∀ k, len ≤ k → k < 8 * used → byteStreamBit out k = false) ∧
    ∀ i, used + i < total → out.getD (used + i) 0 = if i % 2 = 0 then 0xEC else 0x11

/-- R163: whenever the text fits, its count fits the count field; the largest lengths at (10, L) and (1, H)
are those R163 gives. The block's own fit test (R154) and count width are meant: within scope they are R57's
table and R152's formulas, written out in Safety.lean. -/
def Obligations.CharacterCountFitsItsField : Prop :=
  (∀ (v : Nat) (l : BitVec 2) (md : Mode) (len : Nat), 1 ≤ v → v ≤ 10 →
    ccw v md = countWidth v md ∧ payloadBits md len = payloadLength md len ∧
    (fits l md len v = true ↔ fitsVersion l md len v) ∧
    (fits l md len v = true → len < 2 ^ ccw v md)) ∧
  ∀ len : Nat,
    (fits 0 .numeric len 10 = true ↔ len ≤ 652) ∧ (fits 0 .alphanumeric len 10 = true ↔ len ≤ 395) ∧
    (fits 0 .byte len 10 = true ↔ len ≤ 271) ∧ (fits 3 .numeric len 1 = true ↔ len ≤ 17) ∧
    (fits 3 .alphanumeric len 1 = true ↔ len ≤ 10) ∧ (fits 3 .byte len 1 = true ↔ len ≤ 7)

/-! ### Reed-Solomon (42_reed_solomon.md) -/

/-- R180, R184: RSGEN stores in GENBUF the monic polynomial of degree EC whose roots are α^0 … α^(EC−1);
GENBUF from EC + 1 on and everything else stays; other counts are BAD_OPERAND. -/
def Obligations.RsgenStoresTheGenerator : Prop :=
  ∀ (ec : Nat) (s : State),
    (ec = 0 ∨ 30 < ec → exec (.rsgen ec) s = .next (s.failed (.plain .badOperand))) ∧
    (1 ≤ ec → ec ≤ 30 →
      ∃ t, exec (.rsgen ec) s = .next t ∧ s.completedTo t ∧ onlyMemory s t ∧
        sameBytesOutside s t 0x1920 (ec + 1) ∧ t.readBytes 0x1920 (ec + 1) = generator ec ∧
        t.readByte 0x1920 = 1 ∧
        ∀ i, i < ec → polyEval (t.readBytes 0x1920 (ec + 1)) (gfExp i) = 0)

/-- R185: RSENC stores in PARBUF the parity of RSBUF[0..LEN−1]; PARBUF from EC on and everything else
stays; EC outside 1..30 or LEN + EC > 255 is BAD_OPERAND; an empty block and an all-zero block have zero
parity. -/
def Obligations.RsencStoresTheParity : Prop :=
  ∀ (len ec : Nat) (s : State),
    (ec = 0 ∨ 30 < ec ∨ 255 < len + ec →
      exec (.rsenc len ec) s = .next (s.failed (.plain .badOperand))) ∧
    (1 ≤ ec → ec ≤ 30 → len + ec ≤ 255 →
      ∃ t, exec (.rsenc len ec) s = .next t ∧ s.completedTo t ∧ onlyMemory s t ∧
        sameBytesOutside s t 0x1900 ec ∧
        t.readBytes 0x1900 ec = parity ec (s.readBytes 0x1800 len) ∧
        ((∀ k, k < len → s.readByte (0x1800 + k) = 0) → ∀ j, j < ec → t.readByte (0x1900 + j) = 0))

/-- R181: the parity is the remainder of D(x)·x^ec modulo the generator. So after RSENC the block followed
by its parity, read as a polynomial, vanishes at every root α^0 … α^(EC−1) of the generator. -/
def Obligations.RsencMakesACodeword : Prop :=
  ∀ (len ec : Nat) (s t : State), 1 ≤ ec → ec ≤ 30 → len + ec ≤ 255 →
    exec (.rsenc len ec) s = .next t →
    ∀ i, i < ec → polyEval (t.readBytes 0x1800 len ++ t.readBytes 0x1900 ec) (gfExp i) = 0

/-- R182, R183, R186: ECENC stores NTOTAL codewords in FINALCW: codeword i of every block in block order,
the last data round from the longer blocks only, then the parity codewords in the same way; FINALCW from
NTOTAL on and everything else stays. -/
def Obligations.EcencInterleavesBlocksAndParity : Prop :=
  ∀ s : State,
    (s.noVersion → exec .ecenc s = .next (s.failed (.plain .badConfig))) ∧
    ∀ v, s.atVersion v → ∃ t, exec .ecenc s = .next t ∧ s.completedTo t ∧ onlyMemory s t ∧
      sameBytesOutside s t 0x1600 (ntotal v s.config.ecl) ∧
      (∀ b i, b < nblocks v s.config.ecl → i < (firstGroup v s.config.ecl).2 →
        t.readByte (0x1600 + (i * nblocks v s.config.ecl + b)) =
          s.readByte (0x1400 + (blockStart v s.config.ecl b + i))) ∧
      (∀ b, (firstGroup v s.config.ecl).1 ≤ b → b < nblocks v s.config.ecl →
        t.readByte (0x1600 + ((firstGroup v s.config.ecl).2 * nblocks v s.config.ecl +
            (b - (firstGroup v s.config.ecl).1))) =
          s.readByte (0x1400 + (blockStart v s.config.ecl b + (firstGroup v s.config.ecl).2))) ∧
      ∀ b j, b < nblocks v s.config.ecl → j < ecpb v s.config.ecl →
        t.readByte (0x1600 + (ndata v s.config.ecl + (j * nblocks v s.config.ecl + b))) =
          (parity (ecpb v s.config.ecl) (s.readBytes (0x1400 + blockStart v s.config.ecl b)
            (blockLen v s.config.ecl b))).getD j 0

/-! ### Matrix (43_matrix.md) -/

/-- R200, R354: a cell of the working grid has the value of the FIRST setU that covers it, whatever the
list of calls; a cell no call covers stays UNDET. -/
def Obligations.FirstStructuralWriteWins : Prop :=
  ∀ (n : Nat) (ws : List SetU) (r c : Nat), r < n → c < n → (∀ u ∈ ws, u.x ≠ undet) →
    Grid.at (ws.foldl (setU n) (filled n undet)) r c =
      match ws.find? (fun u => decide (u.r = (r : Int)) && decide (u.c = (c : Int))) with
      | some u => u.x
      | none => undet

/-- R202 to R208: in the structure of every version the three finders, the separators, the timing pattern
between them, the alignment patterns, the reserved format cells, the dark module and, from version 7 on, the
reserved version cells stand where their rules put them, with the values those rules give. (With the counts
of StructureLeavesTheCapacityUndetermined every other cell is UNDET.) -/
def Obligations.StructureShowsItsPatterns : Prop :=
  ∀ v, 1 ≤ v → v ≤ 10 →
    let n := gridSide v
    let cell := fun r c => Grid.at (buildGrid v) r c
    (∀ dr dc : Nat, dr < 7 → dc < 7 →
      let x : Byte := if max ((dr : Int) - 3).natAbs ((dc : Int) - 3).natAbs = 2 then 0 else 1
      cell dr dc = x ∧ cell dr (n - 7 + dc) = x ∧ cell (n - 7 + dr) dc = x) ∧
    (∀ k, k ≤ 7 →
      cell 7 k = 0 ∧ cell k 7 = 0 ∧ cell 7 (n - 1 - k) = 0 ∧ cell k (n - 8) = 0 ∧
      cell (n - 8) k = 0 ∧ cell (n - 1 - k) 7 = 0) ∧
    (∀ k, 8 ≤ k → k ≤ n - 9 →
      cell 6 k = (if k % 2 = 0 then 1 else 0) ∧ cell k 6 = (if k % 2 = 0 then 1 else 0)) ∧
    (∀ r c, drawnCentre v r c → ∀ dr dc : Nat, dr < 5 → dc < 5 →
      cell (r - 2 + dr) (c - 2 + dc) =
        if max ((dr : Int) - 2).natAbs ((dc : Int) - 2).natAbs = 1 then 0 else 1) ∧
    (∀ k, k ≤ 5 → cell k 8 = 0 ∧ cell 8 k = 0) ∧ cell 7 8 = 0 ∧ cell 8 8 = 0 ∧ cell 8 7 = 0 ∧
    (∀ k, k ≤ 7 → cell 8 (n - 1 - k) = 0) ∧ (∀ k, k ≤ 6 → cell (n - 1 - k) 8 = 0) ∧
    cell (4 * v + 9) 8 = 1 ∧
    (7 ≤ v → ∀ a b, a < 6 → b < 3 → cell a (n - 11 + b) = 0 ∧ cell (n - 11 + b) a = 0)

/-- R212: the number of UNDET cells the structural phase leaves is that of the table, 8·NTOTAL + REM; the
structural cells are as many as the table says, and both together are n². -/
def Obligations.StructureLeavesTheCapacityUndetermined : Prop :=
  ∀ (v : Nat) (l : BitVec 2), 1 ≤ v → v ≤ 10 →
    (buildGrid v).countCells undet = 8 * ntotal v l + remCells v ∧
    (buildGrid v).countCells undet =
      ([0, 208, 359, 567, 807, 1079, 1383, 1568, 1936, 2336, 2768] : List Nat).getD v 0 ∧
    (buildGrid v).countCells light + (buildGrid v).countCells dark =
      ([0, 233, 266, 274, 282, 290, 298, 457, 465, 473, 481] : List Nat).getD v 0 ∧
    (buildGrid v).countCells undet + (buildGrid v).countCells light + (buildGrid v).countCells dark =
      gridSide v * gridSide v

/-- R209: the placement path visits every cell outside column 6 exactly once, and no cell of column 6; its
pairs have the right columns n − 1, n − 3, …, 8, 5, 3, 1, go upward and downward in turn starting upward,
and in each row visit the right cell, then the left one. -/
def Obligations.PathVisitsEachCellOnce : Prop :=
  ∀ v, 1 ≤ v → v ≤ 10 →
    let n := gridSide v
    (path n).Nodup ∧ (∀ r c, (r, c) ∈ path n ↔ r < n ∧ c < n ∧ c ≠ 6) ∧
    (path n).length = n * (n - 1) ∧
    ∀ k s, k < (n - 1) / 2 → s < n →
      (path n)[2 * (k * n + s)]? = some (pairRow n k s, pairColumn n k) ∧
      (path n)[2 * (k * n + s) + 1]? = some (pairRow n k s, pairColumn n k - 1)

/-- R213: BUILDSTRUCT writes the structural grid to GRID and 0 to MASKMAP on the n×n cells, whatever they
held, and nothing else. -/
def Obligations.BuildstructWritesTheStructure : Prop :=
  ∀ s : State,
    (s.noVersion → exec .buildstruct s = .next (s.failed (.plain .badConfig))) ∧
    ∀ v, s.atVersion v → ∃ t, exec .buildstruct s = .next t ∧ s.completedTo t ∧ onlyMemory s t ∧
      (∀ r c, r < gridSide v → c < gridSide v →
        t.gridCell (gridSide v) r c = Grid.at (buildGrid v) r c ∧ t.mapCell (gridSide v) r c = 0) ∧
      sameBytesOutsideGrids s t (gridSide v)

/-- R210, R211, R214: PLACEDATA checks the grid and then gives the k-th UNDET cell of the path bit k of the
stream (most significant bit of each codeword first, 0 past the stream) and MASKMAP 1; every other cell keeps its GRID value and has MASKMAP 0; nothing else changes, and
no cell is UNDET afterwards. -/
def Obligations.PlacedataPlacesTheStream : Prop :=
  ∀ s : State,
    (s.noVersion → exec .placedata s = .next (s.failed (.plain .badConfig))) ∧
    ∀ v, s.atVersion v →
      let n := gridSide v
      let g := s.readGrid .grid n
      ((∃ r c, r < n ∧ c < n ∧ 2 < (s.gridCell n r c).toNat) ∨ (∃ r, r < n ∧ s.gridCell n r 6 = 2) ∨
        g.countCells 2 ≠ 8 * ntotal v s.config.ecl + remCells v →
        exec .placedata s = .next (s.failed (.plain .badCell))) ∧
      ((∀ r c, r < n → c < n → (s.gridCell n r c).toNat ≤ 2) → (∀ r, r < n → s.gridCell n r 6 ≠ 2) →
        g.countCells 2 = 8 * ntotal v s.config.ecl + remCells v →
        ∃ t, exec .placedata s = .next t ∧ s.completedTo t ∧ onlyMemory s t ∧
          sameBytesOutsideGrids s t n ∧
          (∀ k p, ((path n).filter fun q => decide (s.gridCell n q.1 q.2 = 2))[k]? = some p →
            t.gridCell n p.1 p.2 =
              (if k < 8 * ntotal v s.config.ecl ∧
                (s.readByte (0x1600 + k / 8)).getLsbD (7 - k % 8) = true then 1 else 0) ∧
            t.mapCell n p.1 p.2 = 1) ∧
          (∀ r c, r < n → c < n → s.gridCell n r c ≠ 2 →
            t.gridCell n r c = s.gridCell n r c ∧ t.mapCell n r c = 0) ∧
          ∀ r c, r < n → c < n → t.gridCell n r c ≠ 2)

/-- R214: "After BUILDSTRUCT the checks always pass": the two commands complete one after the other, and
then every cell is Light or Dark. -/
def Obligations.PlacementFollowsStructure : Prop :=
  ∀ (s : State) (v : Nat), s.atVersion v →
    ∃ t u, exec .buildstruct s = .next t ∧ exec .placedata t = .next u ∧ t.completedTo u ∧
      ∀ r c, r < gridSide v → c < gridSide v →
        u.gridCell (gridSide v) r c = 0 ∨ u.gridCell (gridSide v) r c = 1

/-! ### Masks and scores (44_mask.md) -/

/-- R230, R231, R240: APPLYMASK flips exactly the maskable cells where the formula of R230 holds; it changes no other
byte and no register; a maskable cell that is not 0 or 1 is BAD_CELL. -/
def Obligations.ApplymaskFlipsMaskableCells : Prop :=
  ∀ (m : BitVec 3) (s : State),
    (s.noVersion → exec (.applymask m) s = .next (s.failed (.plain .badConfig))) ∧
    ∀ v, s.atVersion v →
      let n := gridSide v
      ((∃ r c, r < n ∧ c < n ∧ s.mapCell n r c ≠ 0 ∧ 1 < (s.gridCell n r c).toNat) →
        exec (.applymask m) s = .next (s.failed (.plain .badCell))) ∧
      ((∀ r c, r < n → c < n → s.mapCell n r c ≠ 0 → (s.gridCell n r c).toNat ≤ 1) →
        ∃ t, exec (.applymask m) s = .next t ∧ s.completedTo t ∧ onlyMemory s t ∧
          sameBytesOutside s t 0x2000 (n * n) ∧
          ∀ r c, r < n → c < n →
            t.gridCell n r c =
              if s.mapCell n r c ≠ 0 ∧ maskHolds m r c then s.gridCell n r c ^^^ 1
              else s.gridCell n r c)

/-- R239, R240: two APPLYMASK commands with the same mask restore every byte. -/
def Obligations.ApplymaskTwiceRestoresTheGrid : Prop :=
  ∀ (m : BitVec 3) (s : State) (v : Nat), s.atVersion v →
    (∀ r c, r < gridSide v → c < gridSide v → s.mapCell (gridSide v) r c ≠ 0 →
      (s.gridCell (gridSide v) r c).toNat ≤ 1) →
    ∃ t u, exec (.applymask m) s = .next t ∧ exec (.applymask m) t = .next u ∧ sameBytes s u

/-- R232 to R236, R241: SCORE writes the four components of the whole grid, counted as those rules say, and
their sum, none of which overflows its register; it changes no byte and no other register; a cell that is
not 0 or 1 is BAD_CELL. -/
def Obligations.ScoreWritesTheFourComponents : Prop :=
  ∀ s : State,
    (s.noVersion → exec .score s = .next (s.failed (.plain .badConfig))) ∧
    ∀ v, s.atVersion v →
      let n := gridSide v
      let cell := s.gridCell n
      ((∃ r c, r < n ∧ c < n ∧ 1 < (s.gridCell n r c).toNat) →
        exec .score s = .next (s.failed (.plain .badCell))) ∧
      ((∀ r c, r < n → c < n → (s.gridCell n r c).toNat ≤ 1) →
        ∃ t, exec .score s = .next t ∧ s.completedTo t ∧ sameBytes s t ∧
          t = { s with score := t.score, result := t.result, status := t.status, phase := t.phase } ∧
          t.scoresAre n cell ∧ t.result.toNat = scoreSpec n cell ∧
          runSpec n cell ≤ 6270 ∧ blockSpec n cell ≤ 9408 ∧ windowSpec n cell ≤ 214320 ∧
          balanceSpec n cell ≤ 100)

/-- R230 to R237, R242: SELECTMASK scores the eight masks of the same base grid, picks the lowest id among
those of least score, masks GRID with it and writes PEN, SCORE, RESULT and RESOLVED.MASK; MASKMAP, every other
byte and every other register stays. -/
def Obligations.SelectmaskPicksTheLeastScore : Prop :=
  ∀ s : State,
    (s.noVersion → exec .selectmask s = .next (s.failed (.plain .badConfig))) ∧
    ∀ v, s.atVersion v →
      let n := gridSide v
      ((∃ r c, r < n ∧ c < n ∧ 1 < (s.gridCell n r c).toNat) →
        exec .selectmask s = .next (s.failed (.plain .badCell))) ∧
      ((∀ r c, r < n → c < n → (s.gridCell n r c).toNat ≤ 1) →
        ∃ t, exec .selectmask s = .next t ∧ s.completedTo t ∧
          t = { s with pen := t.pen, score := t.score, result := t.result, resolved := t.resolved,
                       mem := t.mem, status := t.status, phase := t.phase } ∧
          t.resolved = { s.resolved with mask := t.resolved.mask } ∧
          t.searched n (s.maskedCell n) ∧ sameBytesOutside s t 0x2000 (n * n) ∧
          ∀ r c, r < n → c < n → t.gridCell n r c = s.maskedCell n t.resolved.mask r c)

/-! ### Format and version information (45_bch.md) -/

/-- R260, R261, R263, R267, R268: FMTBITS writes to RESULT the word of R261's table, whose unmasked form has
the level code and mask in its high five bits and is a carry-less multiple of 0x537; VERBITS the 18-bit word
that has V in its high six bits and is a carry-less multiple of 0x1F25, with the words R263 lists; nothing
else changes. -/
def Obligations.BchWordsAreCodewords : Prop :=
  (∀ (l : BitVec 2) (m : BitVec 3), decode (0x50#8 ++ 0#19 ++ l ++ m) = .ok (.fmtbits l m)) ∧
  (∀ v : BitVec 6, decode (0x51#8 ++ 0#18 ++ v) = .ok (.verbits v.toNat)) ∧
  (∀ (l : BitVec 2) (m : BitVec 3) (s : State), ∃ t, exec (.fmtbits l m) s = .next t ∧
    s.completedTo t ∧ onlyResult s t ∧ t.result.toNat = formatEntry l m ∧
    (t.result.toNat ^^^ 0x5412) / 2 ^ 10 = 8 * ([1, 0, 3, 2] : List Nat).getD l.toNat 0 + m.toNat ∧
    ∃ q, q < 2 ^ 5 ∧ t.result.toNat ^^^ 0x5412 = carrylessMul 0x537 q 5) ∧
  ∀ (v : Nat) (s : State), v < 64 → ∃ t, exec (.verbits v) s = .next t ∧
    s.completedTo t ∧ onlyResult s t ∧ t.result.toNat / 2 ^ 12 = v ∧
    (∃ q, q < 2 ^ 6 ∧ t.result.toNat = carrylessMul 0x1F25 q 6) ∧
    (7 ≤ v → v ≤ 10 → t.result.toNat = versionEntry v) ∧ (v = 0 → t.result = 0) ∧
    (v = 1 → t.result = 0x01F25) ∧ (v = 6 → t.result = 0x063B1) ∧ (v = 63 → t.result = 0x3FB85)

/-- R261, R264, R266: WRITEFMT writes bit i of fmt(CONFIG.ECL, RESOLVED.MASK), the word of R261's table, to
FA[i] and FB[i], and the word to FORMAT; it changes no other byte and no other register. -/
def Obligations.WritefmtWritesBothCopies : Prop :=
  ∀ s : State,
    (s.noVersion → exec .writefmt s = .next (s.failed (.plain .badConfig))) ∧
    ∀ v, s.atVersion v →
      let n := gridSide v
      let f := formatEntry s.config.ecl s.resolved.mask
      ∃ t, exec .writefmt s = .next t ∧ s.completedTo t ∧
        t = { s with mem := t.mem, format := t.format, status := t.status, phase := t.phase } ∧
        t.format.toNat = f ∧
        (∀ i, i < 15 →
          t.gridCell n (faCell i).1 (faCell i).2 = (if f.testBit i then 1 else 0) ∧
          t.gridCell n (fbCell n i).1 (fbCell n i).2 = (if f.testBit i then 1 else 0)) ∧
        ∀ a, (∀ i, i < 15 → a ≠ 0x2000 + ((faCell i).1 * n + (faCell i).2) ∧
            a ≠ 0x2000 + ((fbCell n i).1 * n + (fbCell n i).2)) → t.readByte a = s.readByte a

/-- R263 to R265: WRITEVER, for v ≥ 7, writes bit i of ver(v) to VTR[i] and VBL[i] and the word to VERWORD; for
v ≤ 6 it writes no byte and VERWORD becomes 0; nothing else changes. -/
def Obligations.WriteverWritesBothBlocks : Prop :=
  ∀ s : State,
    (s.noVersion → exec .writever s = .next (s.failed (.plain .badConfig))) ∧
    ∀ v, s.atVersion v →
      let n := gridSide v
      ∃ t, exec .writever s = .next t ∧ s.completedTo t ∧
        t = { s with mem := t.mem, verWord := t.verWord, status := t.status, phase := t.phase } ∧
        (v ≤ 6 → t.verWord = 0 ∧ sameBytes s t) ∧
        (7 ≤ v → t.verWord.toNat = versionEntry v ∧
          (∀ i, i < 18 →
            t.gridCell n (i / 3) (n - 11 + i % 3) = (if (versionEntry v).testBit i then 1 else 0) ∧
            t.gridCell n (n - 11 + i % 3) (i / 3) = (if (versionEntry v).testBit i then 1 else 0)) ∧
          ∀ a, (∀ i, i < 18 → a ≠ 0x2000 + (i / 3 * n + (n - 11 + i % 3)) ∧
              a ≠ 0x2000 + ((n - 11 + i % 3) * n + i / 3)) → t.readByte a = s.readByte a)

/-! ### The pipeline (46_pipeline.md) -/

/-- R281: ENCODE's checks in order, each with its error, and on success its registers and buffers: version,
mode, bit length, data and final codewords, FORMAT and VERWORD. With MREQ = 8 the search over the placed grid
leaves its mask, every score and the winner's components; a fixed mask is MREQ itself and leaves RESULT, PEN
and SCORE. GRID is the placed grid masked, with the format and version bits written, and MASKMAP the map of
the placement. RSBUF, PARBUF, GENBUF, TEXT and every other byte stay. -/
def Obligations.EncodeChecksThenCommits : Prop :=
  ∀ s : State,
    (10 < s.config.vreq.toNat ∨ 8 < s.config.mreq.toNat →
      exec .encode s = .next (s.failed (.plain .badConfig))) ∧
    (s.config.vreq.toNat ≤ 10 → s.config.mreq.toNat ≤ 8 →
      (1024 < s.textLen.toNat →
        exec .encode s = .next (s.failed (.capacity s.config.modeReq s.config.ecl))) ∧
      ∀ md, s.textLen.toNat ≤ 1024 → modeAttempted s.config.modeReq s.text md →
        (¬ modeEligible md s.text → exec .encode s = .next (s.failed (.plain .modeIneligible))) ∧
        (modeEligible md s.text →
          (∀ v, ¬ versionChosen s.config.vreq.toNat s.config.ecl md s.textLen.toNat v) →
          exec .encode s = .next (s.failed (.capacity md.code s.config.ecl))) ∧
        ∀ v, modeEligible md s.text →
          versionChosen s.config.vreq.toNat s.config.ecl md s.textLen.toNat v →
          ∃ t, exec .encode s = .next t ∧ s.completedTo t ∧
            t = { s with
              resolved := t.resolved, bitLen := t.bitLen, mem := t.mem, pen := t.pen, score := t.score,
              result := t.result, format := t.format, verWord := t.verWord, status := t.status,
              phase := t.phase } ∧
            t.resolved.ver.toNat = v ∧ t.resolved.mode = md.code ∧
            t.bitLen.toNat = textBits v md s.textLen.toNat ∧
            t.readBytes 0x1400 (ndata v s.config.ecl) = dataCw s.text md v s.config.ecl ∧
            t.readBytes 0x1600 (ntotal v s.config.ecl) =
              finalCw (dataCw s.text md v s.config.ecl) v s.config.ecl ∧
            (s.config.mreq.toNat ≤ 7 → t.resolved.mask.toNat = s.config.mreq.toNat ∧
              t.result = s.result ∧ t.pen = s.pen ∧ t.score = s.score) ∧
            (s.config.mreq.toNat = 8 → t.searched (gridSide v)
              (maskedAt (encodeGrid s.text md v s.config.ecl) (encodeMap v))) ∧
            t.format.toNat = formatEntry s.config.ecl t.resolved.mask ∧
            t.verWord.toNat = versionEntry v ∧
            (∀ r c, r < gridSide v → c < gridSide v →
              t.mapCell (gridSide v) r c = Grid.at (encodeMap v) r c ∧
              ((∀ i, i < 15 → (r, c) ≠ faCell i ∧ (r, c) ≠ fbCell (gridSide v) i) →
                (7 ≤ v → ∀ i, i < 18 → (r, c) ≠ versionCellRight (gridSide v) i ∧ (r, c) ≠ versionCellLeft (gridSide v) i) →
                t.gridCell (gridSide v) r c =
                  maskedAt (encodeGrid s.text md v s.config.ecl) (encodeMap v) t.resolved.mask r c)) ∧
            (∀ i, i < 15 →
              t.gridCell (gridSide v) (faCell i).1 (faCell i).2 =
                (if t.format.toNat.testBit i then 1 else 0) ∧
              t.gridCell (gridSide v) (fbCell (gridSide v) i).1 (fbCell (gridSide v) i).2 =
                (if t.format.toNat.testBit i then 1 else 0)) ∧
            (7 ≤ v → ∀ i, i < 18 →
              t.gridCell (gridSide v) (versionCellRight (gridSide v) i).1 (versionCellRight (gridSide v) i).2 =
                (if t.verWord.toNat.testBit i then 1 else 0) ∧
              t.gridCell (gridSide v) (versionCellLeft (gridSide v) i).1 (versionCellLeft (gridSide v) i).2 =
                (if t.verWord.toNat.testBit i then 1 else 0)) ∧
            ∀ a, (a < 0x1400 ∨ 0x1400 + ndata v s.config.ecl ≤ a) →
              (a < 0x1600 ∨ 0x1600 + ntotal v s.config.ecl ≤ a) →
              (a < 0x2000 ∨ 0x2000 + gridSide v * gridSide v ≤ a) →
              (a < 0x3000 ∨ 0x3000 + gridSide v * gridSide v ≤ a) → t.readByte a = s.readByte a)

/-- R283: a successful ENCODE with MREQ = 8 leaves every register and every byte as the eight stage commands
issued one after the other do; with a fixed mask as the stages with APPLYMASK, then SETRES of the mask,
then the two metadata commands do. (A command runs with ERR = 0, R301, so it succeeded iff ERR stayed 0.) -/
def Obligations.EncodeEqualsItsStages : Prop :=
  ∀ s t : State, s.status.err = false → exec .encode s = .next t → t.status.err = false →
    (s.config.mreq.toNat = 8 →
      ∃ u, execAll [.select, .pack, .ecenc, .buildstruct, .placedata, .selectmask, .writefmt,
          .writever] s = .next u ∧ { u with mem := t.mem } = t ∧ sameBytes t u) ∧
    (s.config.mreq.toNat ≤ 7 →
      ∃ q u, execAll [.select, .pack, .ecenc, .buildstruct, .placedata,
          .applymask (BitVec.ofNat 3 s.config.mreq.toNat)] s = .next q ∧
        execAll [.writefmt, .writever] (hostWrite 0x018 .word
          ((ResolvedReg.mk q.resolved.ver q.resolved.mode
            (BitVec.ofNat 3 s.config.mreq.toNat)).word) q) = .next u ∧
        { u with mem := t.mem } = t ∧ sameBytes t u)

/-- R284: a successful ENCODE depends on the text, its length and CONFIG alone. Two states that agree on
them, whatever their buffers and other registers hold, give the same result registers, the same codewords
and the same GRID and MASKMAP; with a mask search also the same RESULT, PEN and SCORE. -/
def Obligations.EncodeDependsOnTextAndConfigOnly : Prop :=
  ∀ s₁ s₂ t₁ : State, s₁.config = s₂.config → s₁.textLen = s₂.textLen → s₁.text = s₂.text →
    s₁.status.err = false → s₂.status.err = false →
    exec .encode s₁ = .next t₁ → t₁.status.err = false →
    ∃ t₂, exec .encode s₂ = .next t₂ ∧ t₂.status.err = false ∧
      t₁.resolved = t₂.resolved ∧ t₁.bitLen = t₂.bitLen ∧ t₁.format = t₂.format ∧
      t₁.verWord = t₂.verWord ∧
      (s₁.config.mreq.toNat = 8 →
        t₁.result = t₂.result ∧ t₁.pen = t₂.pen ∧ t₁.score = t₂.score) ∧
      t₁.encodeResult = t₂.encodeResult ∧
      t₁.readBytes 0x1400 (t₁.tableReg ndata) = t₂.readBytes 0x1400 (t₂.tableReg ndata) ∧
      t₁.readBytes 0x1600 (t₁.tableReg ntotal) = t₂.readBytes 0x1600 (t₂.tableReg ntotal) ∧
      t₁.readBytes 0x3000 (t₁.sizeReg * t₁.sizeReg) = t₂.readBytes 0x3000 (t₂.sizeReg * t₂.sizeReg)

/-- R284: after a successful ENCODE no cell of the symbol is UNDET; every one is Light or Dark. -/
def Obligations.EncodeLeavesNoUndeterminedCell : Prop :=
  ∀ s t : State, s.status.err = false → exec .encode s = .next t → t.status.err = false →
    ∀ r c, r < t.sizeReg → c < t.sizeReg →
      t.gridCell t.sizeReg r c = 0 ∨ t.gridCell t.sizeReg r c = 1
end

