-- ==== Sys2Proof/Laws/Galois.lean ====
section
/-! SUPPORT. The ROM tables EXP and LOG are those of 10_state.md R50 and R51: the numbers of R52 and R53
satisfy the recurrence and are inverse to each other. -/

namespace Sys2Proof.Laws

open Sys2Proof.Machine

/-- R50: EXP[0] = 1. -/
theorem exp_zero : gfExp 0 = 1 := by decide

/-- R50: EXP[i] = xtime(EXP[i−1]) for 1 ≤ i ≤ 254. -/
theorem expRom_step : ∀ i < 254, gfExp (i + 1) = xtime (gfExp i) := by decide +kernel

/-- R50: EXP[i] = EXP[i − 255] for 255 ≤ i ≤ 511. -/
theorem expTable_repeat : ∀ i < 257, gfExp (i + 255) = gfExp i := by decide +kernel

/-- R51: EXP[LOG[a]] = a for a ≠ 0. -/
theorem exp_log : ∀ a : Byte, a ≠ 0 → gfExp (gfLog a) = a := by decide +kernel

/-- R51: LOG[EXP[i]] = i for 0 ≤ i ≤ 254, so LOG[a] is the unique such i. -/
theorem log_exp : ∀ i < 255, gfLog (gfExp i) = i := by decide +kernel

/-- R51: LOG[0] = 0. -/
theorem log_zero : gfLog 0 = 0 := by decide

/-- R135: LOG[a] is at most 254, so the index LOG[a] + LOG[b] stays below 512. -/
theorem log_le (a : Byte) : gfLog a ≤ 254 := by
  revert a; decide +kernel

/-- The tables have the sizes of R50 and R51. -/
theorem table_sizes : expTable.length = 512 ∧ logTable.length = 256 := by decide +kernel

end Sys2Proof.Laws
end

