-- ==== Sys2Proof/Laws/State.lean ====
section
/-! SUPPORT. One lemma per field per named update of State, true by rfl, so that no later proof unfolds a
record update. `setMask`, `setVersionMode` and `writeGrid` unfold to these. -/

namespace Sys2Proof.Machine

variable (s : State)

/-! ### setPhase -/

@[simp] theorem State.setPhase_phase (p : Phase) : (s.setPhase p).phase = p := rfl
@[simp] theorem State.setPhase_config (p : Phase) : (s.setPhase p).config = s.config := rfl
@[simp] theorem State.setPhase_textLen (p : Phase) : (s.setPhase p).textLen = s.textLen := rfl
@[simp] theorem State.setPhase_cmd (p : Phase) : (s.setPhase p).cmd = s.cmd := rfl
@[simp] theorem State.setPhase_status (p : Phase) : (s.setPhase p).status = s.status := rfl
@[simp] theorem State.setPhase_result (p : Phase) : (s.setPhase p).result = s.result := rfl
@[simp] theorem State.setPhase_resolved (p : Phase) : (s.setPhase p).resolved = s.resolved := rfl
@[simp] theorem State.setPhase_bitLen (p : Phase) : (s.setPhase p).bitLen = s.bitLen := rfl
@[simp] theorem State.setPhase_format (p : Phase) : (s.setPhase p).format = s.format := rfl
@[simp] theorem State.setPhase_verWord (p : Phase) : (s.setPhase p).verWord = s.verWord := rfl
@[simp] theorem State.setPhase_pen (p : Phase) : (s.setPhase p).pen = s.pen := rfl
@[simp] theorem State.setPhase_score (p : Phase) : (s.setPhase p).score = s.score := rfl
@[simp] theorem State.setPhase_mem (p : Phase) : (s.setPhase p).mem = s.mem := rfl
@[simp] theorem State.setPhase_bufEpoch (p : Phase) : (s.setPhase p).bufEpoch = s.bufEpoch := rfl
@[simp] theorem State.setPhase_busyDraws (p : Phase) : (s.setPhase p).busyDraws = s.busyDraws := rfl
@[simp] theorem State.setPhase_cmdLatency (p : Phase) : (s.setPhase p).cmdLatency = s.cmdLatency := rfl
@[simp] theorem State.setPhase_hostOps (p : Phase) : (s.setPhase p).hostOps = s.hostOps := rfl
@[simp] theorem State.setPhase_reply (p : Phase) : (s.setPhase p).reply = s.reply := rfl

/-! ### setConfig -/

@[simp] theorem State.setConfig_phase (c : ConfigReg) : (s.setConfig c).phase = s.phase := rfl
@[simp] theorem State.setConfig_config (c : ConfigReg) : (s.setConfig c).config = c := rfl
@[simp] theorem State.setConfig_textLen (c : ConfigReg) : (s.setConfig c).textLen = s.textLen := rfl
@[simp] theorem State.setConfig_cmd (c : ConfigReg) : (s.setConfig c).cmd = s.cmd := rfl
@[simp] theorem State.setConfig_status (c : ConfigReg) : (s.setConfig c).status = s.status := rfl
@[simp] theorem State.setConfig_result (c : ConfigReg) : (s.setConfig c).result = s.result := rfl
@[simp] theorem State.setConfig_resolved (c : ConfigReg) : (s.setConfig c).resolved = s.resolved := rfl
@[simp] theorem State.setConfig_bitLen (c : ConfigReg) : (s.setConfig c).bitLen = s.bitLen := rfl
@[simp] theorem State.setConfig_format (c : ConfigReg) : (s.setConfig c).format = s.format := rfl
@[simp] theorem State.setConfig_verWord (c : ConfigReg) : (s.setConfig c).verWord = s.verWord := rfl
@[simp] theorem State.setConfig_pen (c : ConfigReg) : (s.setConfig c).pen = s.pen := rfl
@[simp] theorem State.setConfig_score (c : ConfigReg) : (s.setConfig c).score = s.score := rfl
@[simp] theorem State.setConfig_mem (c : ConfigReg) : (s.setConfig c).mem = s.mem := rfl
@[simp] theorem State.setConfig_bufEpoch (c : ConfigReg) : (s.setConfig c).bufEpoch = s.bufEpoch := rfl
@[simp] theorem State.setConfig_busyDraws (c : ConfigReg) : (s.setConfig c).busyDraws = s.busyDraws := rfl
@[simp] theorem State.setConfig_cmdLatency (c : ConfigReg) : (s.setConfig c).cmdLatency = s.cmdLatency := rfl
@[simp] theorem State.setConfig_hostOps (c : ConfigReg) : (s.setConfig c).hostOps = s.hostOps := rfl
@[simp] theorem State.setConfig_reply (c : ConfigReg) : (s.setConfig c).reply = s.reply := rfl

/-! ### setTextLen -/

@[simp] theorem State.setTextLen_phase (n : BitVec 16) : (s.setTextLen n).phase = s.phase := rfl
@[simp] theorem State.setTextLen_config (n : BitVec 16) : (s.setTextLen n).config = s.config := rfl
@[simp] theorem State.setTextLen_textLen (n : BitVec 16) : (s.setTextLen n).textLen = n := rfl
@[simp] theorem State.setTextLen_cmd (n : BitVec 16) : (s.setTextLen n).cmd = s.cmd := rfl
@[simp] theorem State.setTextLen_status (n : BitVec 16) : (s.setTextLen n).status = s.status := rfl
@[simp] theorem State.setTextLen_result (n : BitVec 16) : (s.setTextLen n).result = s.result := rfl
@[simp] theorem State.setTextLen_resolved (n : BitVec 16) : (s.setTextLen n).resolved = s.resolved := rfl
@[simp] theorem State.setTextLen_bitLen (n : BitVec 16) : (s.setTextLen n).bitLen = s.bitLen := rfl
@[simp] theorem State.setTextLen_format (n : BitVec 16) : (s.setTextLen n).format = s.format := rfl
@[simp] theorem State.setTextLen_verWord (n : BitVec 16) : (s.setTextLen n).verWord = s.verWord := rfl
@[simp] theorem State.setTextLen_pen (n : BitVec 16) : (s.setTextLen n).pen = s.pen := rfl
@[simp] theorem State.setTextLen_score (n : BitVec 16) : (s.setTextLen n).score = s.score := rfl
@[simp] theorem State.setTextLen_mem (n : BitVec 16) : (s.setTextLen n).mem = s.mem := rfl
@[simp] theorem State.setTextLen_bufEpoch (n : BitVec 16) : (s.setTextLen n).bufEpoch = s.bufEpoch := rfl
@[simp] theorem State.setTextLen_busyDraws (n : BitVec 16) : (s.setTextLen n).busyDraws = s.busyDraws := rfl
@[simp] theorem State.setTextLen_cmdLatency (n : BitVec 16) : (s.setTextLen n).cmdLatency = s.cmdLatency := rfl
@[simp] theorem State.setTextLen_hostOps (n : BitVec 16) : (s.setTextLen n).hostOps = s.hostOps := rfl
@[simp] theorem State.setTextLen_reply (n : BitVec 16) : (s.setTextLen n).reply = s.reply := rfl

/-! ### setCmd -/

@[simp] theorem State.setCmd_phase (w : Word) : (s.setCmd w).phase = s.phase := rfl
@[simp] theorem State.setCmd_config (w : Word) : (s.setCmd w).config = s.config := rfl
@[simp] theorem State.setCmd_textLen (w : Word) : (s.setCmd w).textLen = s.textLen := rfl
@[simp] theorem State.setCmd_cmd (w : Word) : (s.setCmd w).cmd = w := rfl
@[simp] theorem State.setCmd_status (w : Word) : (s.setCmd w).status = s.status := rfl
@[simp] theorem State.setCmd_result (w : Word) : (s.setCmd w).result = s.result := rfl
@[simp] theorem State.setCmd_resolved (w : Word) : (s.setCmd w).resolved = s.resolved := rfl
@[simp] theorem State.setCmd_bitLen (w : Word) : (s.setCmd w).bitLen = s.bitLen := rfl
@[simp] theorem State.setCmd_format (w : Word) : (s.setCmd w).format = s.format := rfl
@[simp] theorem State.setCmd_verWord (w : Word) : (s.setCmd w).verWord = s.verWord := rfl
@[simp] theorem State.setCmd_pen (w : Word) : (s.setCmd w).pen = s.pen := rfl
@[simp] theorem State.setCmd_score (w : Word) : (s.setCmd w).score = s.score := rfl
@[simp] theorem State.setCmd_mem (w : Word) : (s.setCmd w).mem = s.mem := rfl
@[simp] theorem State.setCmd_bufEpoch (w : Word) : (s.setCmd w).bufEpoch = s.bufEpoch := rfl
@[simp] theorem State.setCmd_busyDraws (w : Word) : (s.setCmd w).busyDraws = s.busyDraws := rfl
@[simp] theorem State.setCmd_cmdLatency (w : Word) : (s.setCmd w).cmdLatency = s.cmdLatency := rfl
@[simp] theorem State.setCmd_hostOps (w : Word) : (s.setCmd w).hostOps = s.hostOps := rfl
@[simp] theorem State.setCmd_reply (w : Word) : (s.setCmd w).reply = s.reply := rfl

/-! ### setStatus -/

@[simp] theorem State.setStatus_phase (st : StatusReg) : (s.setStatus st).phase = s.phase := rfl
@[simp] theorem State.setStatus_config (st : StatusReg) : (s.setStatus st).config = s.config := rfl
@[simp] theorem State.setStatus_textLen (st : StatusReg) : (s.setStatus st).textLen = s.textLen := rfl
@[simp] theorem State.setStatus_cmd (st : StatusReg) : (s.setStatus st).cmd = s.cmd := rfl
@[simp] theorem State.setStatus_status (st : StatusReg) : (s.setStatus st).status = st := rfl
@[simp] theorem State.setStatus_result (st : StatusReg) : (s.setStatus st).result = s.result := rfl
@[simp] theorem State.setStatus_resolved (st : StatusReg) : (s.setStatus st).resolved = s.resolved := rfl
@[simp] theorem State.setStatus_bitLen (st : StatusReg) : (s.setStatus st).bitLen = s.bitLen := rfl
@[simp] theorem State.setStatus_format (st : StatusReg) : (s.setStatus st).format = s.format := rfl
@[simp] theorem State.setStatus_verWord (st : StatusReg) : (s.setStatus st).verWord = s.verWord := rfl
@[simp] theorem State.setStatus_pen (st : StatusReg) : (s.setStatus st).pen = s.pen := rfl
@[simp] theorem State.setStatus_score (st : StatusReg) : (s.setStatus st).score = s.score := rfl
@[simp] theorem State.setStatus_mem (st : StatusReg) : (s.setStatus st).mem = s.mem := rfl
@[simp] theorem State.setStatus_bufEpoch (st : StatusReg) : (s.setStatus st).bufEpoch = s.bufEpoch := rfl
@[simp] theorem State.setStatus_busyDraws (st : StatusReg) : (s.setStatus st).busyDraws = s.busyDraws := rfl
@[simp] theorem State.setStatus_cmdLatency (st : StatusReg) : (s.setStatus st).cmdLatency = s.cmdLatency := rfl
@[simp] theorem State.setStatus_hostOps (st : StatusReg) : (s.setStatus st).hostOps = s.hostOps := rfl
@[simp] theorem State.setStatus_reply (st : StatusReg) : (s.setStatus st).reply = s.reply := rfl

/-! ### setResult -/

@[simp] theorem State.setResult_phase (v : Word) : (s.setResult v).phase = s.phase := rfl
@[simp] theorem State.setResult_config (v : Word) : (s.setResult v).config = s.config := rfl
@[simp] theorem State.setResult_textLen (v : Word) : (s.setResult v).textLen = s.textLen := rfl
@[simp] theorem State.setResult_cmd (v : Word) : (s.setResult v).cmd = s.cmd := rfl
@[simp] theorem State.setResult_status (v : Word) : (s.setResult v).status = s.status := rfl
@[simp] theorem State.setResult_result (v : Word) : (s.setResult v).result = v := rfl
@[simp] theorem State.setResult_resolved (v : Word) : (s.setResult v).resolved = s.resolved := rfl
@[simp] theorem State.setResult_bitLen (v : Word) : (s.setResult v).bitLen = s.bitLen := rfl
@[simp] theorem State.setResult_format (v : Word) : (s.setResult v).format = s.format := rfl
@[simp] theorem State.setResult_verWord (v : Word) : (s.setResult v).verWord = s.verWord := rfl
@[simp] theorem State.setResult_pen (v : Word) : (s.setResult v).pen = s.pen := rfl
@[simp] theorem State.setResult_score (v : Word) : (s.setResult v).score = s.score := rfl
@[simp] theorem State.setResult_mem (v : Word) : (s.setResult v).mem = s.mem := rfl
@[simp] theorem State.setResult_bufEpoch (v : Word) : (s.setResult v).bufEpoch = s.bufEpoch := rfl
@[simp] theorem State.setResult_busyDraws (v : Word) : (s.setResult v).busyDraws = s.busyDraws := rfl
@[simp] theorem State.setResult_cmdLatency (v : Word) : (s.setResult v).cmdLatency = s.cmdLatency := rfl
@[simp] theorem State.setResult_hostOps (v : Word) : (s.setResult v).hostOps = s.hostOps := rfl
@[simp] theorem State.setResult_reply (v : Word) : (s.setResult v).reply = s.reply := rfl

/-! ### setResolved -/

@[simp] theorem State.setResolved_phase (r : ResolvedReg) : (s.setResolved r).phase = s.phase := rfl
@[simp] theorem State.setResolved_config (r : ResolvedReg) : (s.setResolved r).config = s.config := rfl
@[simp] theorem State.setResolved_textLen (r : ResolvedReg) : (s.setResolved r).textLen = s.textLen := rfl
@[simp] theorem State.setResolved_cmd (r : ResolvedReg) : (s.setResolved r).cmd = s.cmd := rfl
@[simp] theorem State.setResolved_status (r : ResolvedReg) : (s.setResolved r).status = s.status := rfl
@[simp] theorem State.setResolved_result (r : ResolvedReg) : (s.setResolved r).result = s.result := rfl
@[simp] theorem State.setResolved_resolved (r : ResolvedReg) : (s.setResolved r).resolved = r := rfl
@[simp] theorem State.setResolved_bitLen (r : ResolvedReg) : (s.setResolved r).bitLen = s.bitLen := rfl
@[simp] theorem State.setResolved_format (r : ResolvedReg) : (s.setResolved r).format = s.format := rfl
@[simp] theorem State.setResolved_verWord (r : ResolvedReg) : (s.setResolved r).verWord = s.verWord := rfl
@[simp] theorem State.setResolved_pen (r : ResolvedReg) : (s.setResolved r).pen = s.pen := rfl
@[simp] theorem State.setResolved_score (r : ResolvedReg) : (s.setResolved r).score = s.score := rfl
@[simp] theorem State.setResolved_mem (r : ResolvedReg) : (s.setResolved r).mem = s.mem := rfl
@[simp] theorem State.setResolved_bufEpoch (r : ResolvedReg) : (s.setResolved r).bufEpoch = s.bufEpoch := rfl
@[simp] theorem State.setResolved_busyDraws (r : ResolvedReg) : (s.setResolved r).busyDraws = s.busyDraws := rfl
@[simp] theorem State.setResolved_cmdLatency (r : ResolvedReg) : (s.setResolved r).cmdLatency = s.cmdLatency := rfl
@[simp] theorem State.setResolved_hostOps (r : ResolvedReg) : (s.setResolved r).hostOps = s.hostOps := rfl
@[simp] theorem State.setResolved_reply (r : ResolvedReg) : (s.setResolved r).reply = s.reply := rfl

/-! ### setBitLen -/

@[simp] theorem State.setBitLen_phase (n : BitVec 16) : (s.setBitLen n).phase = s.phase := rfl
@[simp] theorem State.setBitLen_config (n : BitVec 16) : (s.setBitLen n).config = s.config := rfl
@[simp] theorem State.setBitLen_textLen (n : BitVec 16) : (s.setBitLen n).textLen = s.textLen := rfl
@[simp] theorem State.setBitLen_cmd (n : BitVec 16) : (s.setBitLen n).cmd = s.cmd := rfl
@[simp] theorem State.setBitLen_status (n : BitVec 16) : (s.setBitLen n).status = s.status := rfl
@[simp] theorem State.setBitLen_result (n : BitVec 16) : (s.setBitLen n).result = s.result := rfl
@[simp] theorem State.setBitLen_resolved (n : BitVec 16) : (s.setBitLen n).resolved = s.resolved := rfl
@[simp] theorem State.setBitLen_bitLen (n : BitVec 16) : (s.setBitLen n).bitLen = n := rfl
@[simp] theorem State.setBitLen_format (n : BitVec 16) : (s.setBitLen n).format = s.format := rfl
@[simp] theorem State.setBitLen_verWord (n : BitVec 16) : (s.setBitLen n).verWord = s.verWord := rfl
@[simp] theorem State.setBitLen_pen (n : BitVec 16) : (s.setBitLen n).pen = s.pen := rfl
@[simp] theorem State.setBitLen_score (n : BitVec 16) : (s.setBitLen n).score = s.score := rfl
@[simp] theorem State.setBitLen_mem (n : BitVec 16) : (s.setBitLen n).mem = s.mem := rfl
@[simp] theorem State.setBitLen_bufEpoch (n : BitVec 16) : (s.setBitLen n).bufEpoch = s.bufEpoch := rfl
@[simp] theorem State.setBitLen_busyDraws (n : BitVec 16) : (s.setBitLen n).busyDraws = s.busyDraws := rfl
@[simp] theorem State.setBitLen_cmdLatency (n : BitVec 16) : (s.setBitLen n).cmdLatency = s.cmdLatency := rfl
@[simp] theorem State.setBitLen_hostOps (n : BitVec 16) : (s.setBitLen n).hostOps = s.hostOps := rfl
@[simp] theorem State.setBitLen_reply (n : BitVec 16) : (s.setBitLen n).reply = s.reply := rfl

/-! ### setFormat -/

@[simp] theorem State.setFormat_phase (f : BitVec 15) : (s.setFormat f).phase = s.phase := rfl
@[simp] theorem State.setFormat_config (f : BitVec 15) : (s.setFormat f).config = s.config := rfl
@[simp] theorem State.setFormat_textLen (f : BitVec 15) : (s.setFormat f).textLen = s.textLen := rfl
@[simp] theorem State.setFormat_cmd (f : BitVec 15) : (s.setFormat f).cmd = s.cmd := rfl
@[simp] theorem State.setFormat_status (f : BitVec 15) : (s.setFormat f).status = s.status := rfl
@[simp] theorem State.setFormat_result (f : BitVec 15) : (s.setFormat f).result = s.result := rfl
@[simp] theorem State.setFormat_resolved (f : BitVec 15) : (s.setFormat f).resolved = s.resolved := rfl
@[simp] theorem State.setFormat_bitLen (f : BitVec 15) : (s.setFormat f).bitLen = s.bitLen := rfl
@[simp] theorem State.setFormat_format (f : BitVec 15) : (s.setFormat f).format = f := rfl
@[simp] theorem State.setFormat_verWord (f : BitVec 15) : (s.setFormat f).verWord = s.verWord := rfl
@[simp] theorem State.setFormat_pen (f : BitVec 15) : (s.setFormat f).pen = s.pen := rfl
@[simp] theorem State.setFormat_score (f : BitVec 15) : (s.setFormat f).score = s.score := rfl
@[simp] theorem State.setFormat_mem (f : BitVec 15) : (s.setFormat f).mem = s.mem := rfl
@[simp] theorem State.setFormat_bufEpoch (f : BitVec 15) : (s.setFormat f).bufEpoch = s.bufEpoch := rfl
@[simp] theorem State.setFormat_busyDraws (f : BitVec 15) : (s.setFormat f).busyDraws = s.busyDraws := rfl
@[simp] theorem State.setFormat_cmdLatency (f : BitVec 15) : (s.setFormat f).cmdLatency = s.cmdLatency := rfl
@[simp] theorem State.setFormat_hostOps (f : BitVec 15) : (s.setFormat f).hostOps = s.hostOps := rfl
@[simp] theorem State.setFormat_reply (f : BitVec 15) : (s.setFormat f).reply = s.reply := rfl

/-! ### setVerWord -/

@[simp] theorem State.setVerWord_phase (w : BitVec 18) : (s.setVerWord w).phase = s.phase := rfl
@[simp] theorem State.setVerWord_config (w : BitVec 18) : (s.setVerWord w).config = s.config := rfl
@[simp] theorem State.setVerWord_textLen (w : BitVec 18) : (s.setVerWord w).textLen = s.textLen := rfl
@[simp] theorem State.setVerWord_cmd (w : BitVec 18) : (s.setVerWord w).cmd = s.cmd := rfl
@[simp] theorem State.setVerWord_status (w : BitVec 18) : (s.setVerWord w).status = s.status := rfl
@[simp] theorem State.setVerWord_result (w : BitVec 18) : (s.setVerWord w).result = s.result := rfl
@[simp] theorem State.setVerWord_resolved (w : BitVec 18) : (s.setVerWord w).resolved = s.resolved := rfl
@[simp] theorem State.setVerWord_bitLen (w : BitVec 18) : (s.setVerWord w).bitLen = s.bitLen := rfl
@[simp] theorem State.setVerWord_format (w : BitVec 18) : (s.setVerWord w).format = s.format := rfl
@[simp] theorem State.setVerWord_verWord (w : BitVec 18) : (s.setVerWord w).verWord = w := rfl
@[simp] theorem State.setVerWord_pen (w : BitVec 18) : (s.setVerWord w).pen = s.pen := rfl
@[simp] theorem State.setVerWord_score (w : BitVec 18) : (s.setVerWord w).score = s.score := rfl
@[simp] theorem State.setVerWord_mem (w : BitVec 18) : (s.setVerWord w).mem = s.mem := rfl
@[simp] theorem State.setVerWord_bufEpoch (w : BitVec 18) : (s.setVerWord w).bufEpoch = s.bufEpoch := rfl
@[simp] theorem State.setVerWord_busyDraws (w : BitVec 18) : (s.setVerWord w).busyDraws = s.busyDraws := rfl
@[simp] theorem State.setVerWord_cmdLatency (w : BitVec 18) : (s.setVerWord w).cmdLatency = s.cmdLatency := rfl
@[simp] theorem State.setVerWord_hostOps (w : BitVec 18) : (s.setVerWord w).hostOps = s.hostOps := rfl
@[simp] theorem State.setVerWord_reply (w : BitVec 18) : (s.setVerWord w).reply = s.reply := rfl

/-! ### setPen -/

@[simp] theorem State.setPen_phase (p : Vector Word 8) : (s.setPen p).phase = s.phase := rfl
@[simp] theorem State.setPen_config (p : Vector Word 8) : (s.setPen p).config = s.config := rfl
@[simp] theorem State.setPen_textLen (p : Vector Word 8) : (s.setPen p).textLen = s.textLen := rfl
@[simp] theorem State.setPen_cmd (p : Vector Word 8) : (s.setPen p).cmd = s.cmd := rfl
@[simp] theorem State.setPen_status (p : Vector Word 8) : (s.setPen p).status = s.status := rfl
@[simp] theorem State.setPen_result (p : Vector Word 8) : (s.setPen p).result = s.result := rfl
@[simp] theorem State.setPen_resolved (p : Vector Word 8) : (s.setPen p).resolved = s.resolved := rfl
@[simp] theorem State.setPen_bitLen (p : Vector Word 8) : (s.setPen p).bitLen = s.bitLen := rfl
@[simp] theorem State.setPen_format (p : Vector Word 8) : (s.setPen p).format = s.format := rfl
@[simp] theorem State.setPen_verWord (p : Vector Word 8) : (s.setPen p).verWord = s.verWord := rfl
@[simp] theorem State.setPen_pen (p : Vector Word 8) : (s.setPen p).pen = p := rfl
@[simp] theorem State.setPen_score (p : Vector Word 8) : (s.setPen p).score = s.score := rfl
@[simp] theorem State.setPen_mem (p : Vector Word 8) : (s.setPen p).mem = s.mem := rfl
@[simp] theorem State.setPen_bufEpoch (p : Vector Word 8) : (s.setPen p).bufEpoch = s.bufEpoch := rfl
@[simp] theorem State.setPen_busyDraws (p : Vector Word 8) : (s.setPen p).busyDraws = s.busyDraws := rfl
@[simp] theorem State.setPen_cmdLatency (p : Vector Word 8) : (s.setPen p).cmdLatency = s.cmdLatency := rfl
@[simp] theorem State.setPen_hostOps (p : Vector Word 8) : (s.setPen p).hostOps = s.hostOps := rfl
@[simp] theorem State.setPen_reply (p : Vector Word 8) : (s.setPen p).reply = s.reply := rfl

/-! ### setScore -/

@[simp] theorem State.setScore_phase (p : Vector Word 4) : (s.setScore p).phase = s.phase := rfl
@[simp] theorem State.setScore_config (p : Vector Word 4) : (s.setScore p).config = s.config := rfl
@[simp] theorem State.setScore_textLen (p : Vector Word 4) : (s.setScore p).textLen = s.textLen := rfl
@[simp] theorem State.setScore_cmd (p : Vector Word 4) : (s.setScore p).cmd = s.cmd := rfl
@[simp] theorem State.setScore_status (p : Vector Word 4) : (s.setScore p).status = s.status := rfl
@[simp] theorem State.setScore_result (p : Vector Word 4) : (s.setScore p).result = s.result := rfl
@[simp] theorem State.setScore_resolved (p : Vector Word 4) : (s.setScore p).resolved = s.resolved := rfl
@[simp] theorem State.setScore_bitLen (p : Vector Word 4) : (s.setScore p).bitLen = s.bitLen := rfl
@[simp] theorem State.setScore_format (p : Vector Word 4) : (s.setScore p).format = s.format := rfl
@[simp] theorem State.setScore_verWord (p : Vector Word 4) : (s.setScore p).verWord = s.verWord := rfl
@[simp] theorem State.setScore_pen (p : Vector Word 4) : (s.setScore p).pen = s.pen := rfl
@[simp] theorem State.setScore_score (p : Vector Word 4) : (s.setScore p).score = p := rfl
@[simp] theorem State.setScore_mem (p : Vector Word 4) : (s.setScore p).mem = s.mem := rfl
@[simp] theorem State.setScore_bufEpoch (p : Vector Word 4) : (s.setScore p).bufEpoch = s.bufEpoch := rfl
@[simp] theorem State.setScore_busyDraws (p : Vector Word 4) : (s.setScore p).busyDraws = s.busyDraws := rfl
@[simp] theorem State.setScore_cmdLatency (p : Vector Word 4) : (s.setScore p).cmdLatency = s.cmdLatency := rfl
@[simp] theorem State.setScore_hostOps (p : Vector Word 4) : (s.setScore p).hostOps = s.hostOps := rfl
@[simp] theorem State.setScore_reply (p : Vector Word 4) : (s.setScore p).reply = s.reply := rfl

/-! ### setBusyDraws -/

@[simp] theorem State.setBusyDraws_phase (k : Nat) : (s.setBusyDraws k).phase = s.phase := rfl
@[simp] theorem State.setBusyDraws_config (k : Nat) : (s.setBusyDraws k).config = s.config := rfl
@[simp] theorem State.setBusyDraws_textLen (k : Nat) : (s.setBusyDraws k).textLen = s.textLen := rfl
@[simp] theorem State.setBusyDraws_cmd (k : Nat) : (s.setBusyDraws k).cmd = s.cmd := rfl
@[simp] theorem State.setBusyDraws_status (k : Nat) : (s.setBusyDraws k).status = s.status := rfl
@[simp] theorem State.setBusyDraws_result (k : Nat) : (s.setBusyDraws k).result = s.result := rfl
@[simp] theorem State.setBusyDraws_resolved (k : Nat) : (s.setBusyDraws k).resolved = s.resolved := rfl
@[simp] theorem State.setBusyDraws_bitLen (k : Nat) : (s.setBusyDraws k).bitLen = s.bitLen := rfl
@[simp] theorem State.setBusyDraws_format (k : Nat) : (s.setBusyDraws k).format = s.format := rfl
@[simp] theorem State.setBusyDraws_verWord (k : Nat) : (s.setBusyDraws k).verWord = s.verWord := rfl
@[simp] theorem State.setBusyDraws_pen (k : Nat) : (s.setBusyDraws k).pen = s.pen := rfl
@[simp] theorem State.setBusyDraws_score (k : Nat) : (s.setBusyDraws k).score = s.score := rfl
@[simp] theorem State.setBusyDraws_mem (k : Nat) : (s.setBusyDraws k).mem = s.mem := rfl
@[simp] theorem State.setBusyDraws_bufEpoch (k : Nat) : (s.setBusyDraws k).bufEpoch = s.bufEpoch := rfl
@[simp] theorem State.setBusyDraws_busyDraws (k : Nat) : (s.setBusyDraws k).busyDraws = k := rfl
@[simp] theorem State.setBusyDraws_cmdLatency (k : Nat) : (s.setBusyDraws k).cmdLatency = s.cmdLatency := rfl
@[simp] theorem State.setBusyDraws_hostOps (k : Nat) : (s.setBusyDraws k).hostOps = s.hostOps := rfl
@[simp] theorem State.setBusyDraws_reply (k : Nat) : (s.setBusyDraws k).reply = s.reply := rfl

/-! ### setCmdLatency -/

@[simp] theorem State.setCmdLatency_phase (l : List Nat) : (s.setCmdLatency l).phase = s.phase := rfl
@[simp] theorem State.setCmdLatency_config (l : List Nat) : (s.setCmdLatency l).config = s.config := rfl
@[simp] theorem State.setCmdLatency_textLen (l : List Nat) : (s.setCmdLatency l).textLen = s.textLen := rfl
@[simp] theorem State.setCmdLatency_cmd (l : List Nat) : (s.setCmdLatency l).cmd = s.cmd := rfl
@[simp] theorem State.setCmdLatency_status (l : List Nat) : (s.setCmdLatency l).status = s.status := rfl
@[simp] theorem State.setCmdLatency_result (l : List Nat) : (s.setCmdLatency l).result = s.result := rfl
@[simp] theorem State.setCmdLatency_resolved (l : List Nat) : (s.setCmdLatency l).resolved = s.resolved := rfl
@[simp] theorem State.setCmdLatency_bitLen (l : List Nat) : (s.setCmdLatency l).bitLen = s.bitLen := rfl
@[simp] theorem State.setCmdLatency_format (l : List Nat) : (s.setCmdLatency l).format = s.format := rfl
@[simp] theorem State.setCmdLatency_verWord (l : List Nat) : (s.setCmdLatency l).verWord = s.verWord := rfl
@[simp] theorem State.setCmdLatency_pen (l : List Nat) : (s.setCmdLatency l).pen = s.pen := rfl
@[simp] theorem State.setCmdLatency_score (l : List Nat) : (s.setCmdLatency l).score = s.score := rfl
@[simp] theorem State.setCmdLatency_mem (l : List Nat) : (s.setCmdLatency l).mem = s.mem := rfl
@[simp] theorem State.setCmdLatency_bufEpoch (l : List Nat) : (s.setCmdLatency l).bufEpoch = s.bufEpoch := rfl
@[simp] theorem State.setCmdLatency_busyDraws (l : List Nat) : (s.setCmdLatency l).busyDraws = s.busyDraws := rfl
@[simp] theorem State.setCmdLatency_cmdLatency (l : List Nat) : (s.setCmdLatency l).cmdLatency = l := rfl
@[simp] theorem State.setCmdLatency_hostOps (l : List Nat) : (s.setCmdLatency l).hostOps = s.hostOps := rfl
@[simp] theorem State.setCmdLatency_reply (l : List Nat) : (s.setCmdLatency l).reply = s.reply := rfl

/-! ### setHostOps -/

@[simp] theorem State.setHostOps_phase (l : List HostOp) : (s.setHostOps l).phase = s.phase := rfl
@[simp] theorem State.setHostOps_config (l : List HostOp) : (s.setHostOps l).config = s.config := rfl
@[simp] theorem State.setHostOps_textLen (l : List HostOp) : (s.setHostOps l).textLen = s.textLen := rfl
@[simp] theorem State.setHostOps_cmd (l : List HostOp) : (s.setHostOps l).cmd = s.cmd := rfl
@[simp] theorem State.setHostOps_status (l : List HostOp) : (s.setHostOps l).status = s.status := rfl
@[simp] theorem State.setHostOps_result (l : List HostOp) : (s.setHostOps l).result = s.result := rfl
@[simp] theorem State.setHostOps_resolved (l : List HostOp) : (s.setHostOps l).resolved = s.resolved := rfl
@[simp] theorem State.setHostOps_bitLen (l : List HostOp) : (s.setHostOps l).bitLen = s.bitLen := rfl
@[simp] theorem State.setHostOps_format (l : List HostOp) : (s.setHostOps l).format = s.format := rfl
@[simp] theorem State.setHostOps_verWord (l : List HostOp) : (s.setHostOps l).verWord = s.verWord := rfl
@[simp] theorem State.setHostOps_pen (l : List HostOp) : (s.setHostOps l).pen = s.pen := rfl
@[simp] theorem State.setHostOps_score (l : List HostOp) : (s.setHostOps l).score = s.score := rfl
@[simp] theorem State.setHostOps_mem (l : List HostOp) : (s.setHostOps l).mem = s.mem := rfl
@[simp] theorem State.setHostOps_bufEpoch (l : List HostOp) : (s.setHostOps l).bufEpoch = s.bufEpoch := rfl
@[simp] theorem State.setHostOps_busyDraws (l : List HostOp) : (s.setHostOps l).busyDraws = s.busyDraws := rfl
@[simp] theorem State.setHostOps_cmdLatency (l : List HostOp) : (s.setHostOps l).cmdLatency = s.cmdLatency := rfl
@[simp] theorem State.setHostOps_hostOps (l : List HostOp) : (s.setHostOps l).hostOps = l := rfl
@[simp] theorem State.setHostOps_reply (l : List HostOp) : (s.setHostOps l).reply = s.reply := rfl

/-! ### setReply -/

@[simp] theorem State.setReply_phase (v : Option Word) : (s.setReply v).phase = s.phase := rfl
@[simp] theorem State.setReply_config (v : Option Word) : (s.setReply v).config = s.config := rfl
@[simp] theorem State.setReply_textLen (v : Option Word) : (s.setReply v).textLen = s.textLen := rfl
@[simp] theorem State.setReply_cmd (v : Option Word) : (s.setReply v).cmd = s.cmd := rfl
@[simp] theorem State.setReply_status (v : Option Word) : (s.setReply v).status = s.status := rfl
@[simp] theorem State.setReply_result (v : Option Word) : (s.setReply v).result = s.result := rfl
@[simp] theorem State.setReply_resolved (v : Option Word) : (s.setReply v).resolved = s.resolved := rfl
@[simp] theorem State.setReply_bitLen (v : Option Word) : (s.setReply v).bitLen = s.bitLen := rfl
@[simp] theorem State.setReply_format (v : Option Word) : (s.setReply v).format = s.format := rfl
@[simp] theorem State.setReply_verWord (v : Option Word) : (s.setReply v).verWord = s.verWord := rfl
@[simp] theorem State.setReply_pen (v : Option Word) : (s.setReply v).pen = s.pen := rfl
@[simp] theorem State.setReply_score (v : Option Word) : (s.setReply v).score = s.score := rfl
@[simp] theorem State.setReply_mem (v : Option Word) : (s.setReply v).mem = s.mem := rfl
@[simp] theorem State.setReply_bufEpoch (v : Option Word) : (s.setReply v).bufEpoch = s.bufEpoch := rfl
@[simp] theorem State.setReply_busyDraws (v : Option Word) : (s.setReply v).busyDraws = s.busyDraws := rfl
@[simp] theorem State.setReply_cmdLatency (v : Option Word) : (s.setReply v).cmdLatency = s.cmdLatency := rfl
@[simp] theorem State.setReply_hostOps (v : Option Word) : (s.setReply v).hostOps = s.hostOps := rfl
@[simp] theorem State.setReply_reply (v : Option Word) : (s.setReply v).reply = v := rfl

/-! ### writeBytes -/

@[simp] theorem State.writeBytes_phase (base : Nat) (bs : List Byte) :
    (s.writeBytes base bs).phase = s.phase := rfl
@[simp] theorem State.writeBytes_config (base : Nat) (bs : List Byte) :
    (s.writeBytes base bs).config = s.config := rfl
@[simp] theorem State.writeBytes_textLen (base : Nat) (bs : List Byte) :
    (s.writeBytes base bs).textLen = s.textLen := rfl
@[simp] theorem State.writeBytes_cmd (base : Nat) (bs : List Byte) :
    (s.writeBytes base bs).cmd = s.cmd := rfl
@[simp] theorem State.writeBytes_status (base : Nat) (bs : List Byte) :
    (s.writeBytes base bs).status = s.status := rfl
@[simp] theorem State.writeBytes_result (base : Nat) (bs : List Byte) :
    (s.writeBytes base bs).result = s.result := rfl
@[simp] theorem State.writeBytes_resolved (base : Nat) (bs : List Byte) :
    (s.writeBytes base bs).resolved = s.resolved := rfl
@[simp] theorem State.writeBytes_bitLen (base : Nat) (bs : List Byte) :
    (s.writeBytes base bs).bitLen = s.bitLen := rfl
@[simp] theorem State.writeBytes_format (base : Nat) (bs : List Byte) :
    (s.writeBytes base bs).format = s.format := rfl
@[simp] theorem State.writeBytes_verWord (base : Nat) (bs : List Byte) :
    (s.writeBytes base bs).verWord = s.verWord := rfl
@[simp] theorem State.writeBytes_pen (base : Nat) (bs : List Byte) :
    (s.writeBytes base bs).pen = s.pen := rfl
@[simp] theorem State.writeBytes_score (base : Nat) (bs : List Byte) :
    (s.writeBytes base bs).score = s.score := rfl
@[simp] theorem State.writeBytes_mem (base : Nat) (bs : List Byte) :
    (s.writeBytes base bs).mem = s.mem.write base bs := rfl
@[simp] theorem State.writeBytes_bufEpoch (base : Nat) (bs : List Byte) :
    (s.writeBytes base bs).bufEpoch = s.bufEpoch := rfl
@[simp] theorem State.writeBytes_busyDraws (base : Nat) (bs : List Byte) :
    (s.writeBytes base bs).busyDraws = s.busyDraws := rfl
@[simp] theorem State.writeBytes_cmdLatency (base : Nat) (bs : List Byte) :
    (s.writeBytes base bs).cmdLatency = s.cmdLatency := rfl
@[simp] theorem State.writeBytes_hostOps (base : Nat) (bs : List Byte) :
    (s.writeBytes base bs).hostOps = s.hostOps := rfl
@[simp] theorem State.writeBytes_reply (base : Nat) (bs : List Byte) :
    (s.writeBytes base bs).reply = s.reply := rfl

/-! ### setVersionMode, setMask and writeGrid -/

@[simp] theorem State.setVersionMode_phase (v : Nat) (md : Mode) :
    (s.setVersionMode v md).phase = s.phase := rfl
@[simp] theorem State.setVersionMode_config (v : Nat) (md : Mode) :
    (s.setVersionMode v md).config = s.config := rfl
@[simp] theorem State.setVersionMode_textLen (v : Nat) (md : Mode) :
    (s.setVersionMode v md).textLen = s.textLen := rfl
@[simp] theorem State.setVersionMode_cmd (v : Nat) (md : Mode) :
    (s.setVersionMode v md).cmd = s.cmd := rfl
@[simp] theorem State.setVersionMode_status (v : Nat) (md : Mode) :
    (s.setVersionMode v md).status = s.status := rfl
@[simp] theorem State.setVersionMode_result (v : Nat) (md : Mode) :
    (s.setVersionMode v md).result = s.result := rfl
@[simp] theorem State.setVersionMode_resolved (v : Nat) (md : Mode) :
    (s.setVersionMode v md).resolved = ⟨BitVec.ofNat 4 v, md.code, s.resolved.mask⟩ := rfl
@[simp] theorem State.setVersionMode_bitLen (v : Nat) (md : Mode) :
    (s.setVersionMode v md).bitLen = s.bitLen := rfl
@[simp] theorem State.setVersionMode_format (v : Nat) (md : Mode) :
    (s.setVersionMode v md).format = s.format := rfl
@[simp] theorem State.setVersionMode_verWord (v : Nat) (md : Mode) :
    (s.setVersionMode v md).verWord = s.verWord := rfl
@[simp] theorem State.setVersionMode_pen (v : Nat) (md : Mode) :
    (s.setVersionMode v md).pen = s.pen := rfl
@[simp] theorem State.setVersionMode_score (v : Nat) (md : Mode) :
    (s.setVersionMode v md).score = s.score := rfl
@[simp] theorem State.setVersionMode_mem (v : Nat) (md : Mode) :
    (s.setVersionMode v md).mem = s.mem := rfl
@[simp] theorem State.setVersionMode_bufEpoch (v : Nat) (md : Mode) :
    (s.setVersionMode v md).bufEpoch = s.bufEpoch := rfl
@[simp] theorem State.setVersionMode_busyDraws (v : Nat) (md : Mode) :
    (s.setVersionMode v md).busyDraws = s.busyDraws := rfl
@[simp] theorem State.setVersionMode_cmdLatency (v : Nat) (md : Mode) :
    (s.setVersionMode v md).cmdLatency = s.cmdLatency := rfl
@[simp] theorem State.setVersionMode_hostOps (v : Nat) (md : Mode) :
    (s.setVersionMode v md).hostOps = s.hostOps := rfl
@[simp] theorem State.setVersionMode_reply (v : Nat) (md : Mode) :
    (s.setVersionMode v md).reply = s.reply := rfl
@[simp] theorem State.setMask_phase (m : BitVec 3) :
    (s.setMask m).phase = s.phase := rfl
@[simp] theorem State.setMask_config (m : BitVec 3) :
    (s.setMask m).config = s.config := rfl
@[simp] theorem State.setMask_textLen (m : BitVec 3) :
    (s.setMask m).textLen = s.textLen := rfl
@[simp] theorem State.setMask_cmd (m : BitVec 3) :
    (s.setMask m).cmd = s.cmd := rfl
@[simp] theorem State.setMask_status (m : BitVec 3) :
    (s.setMask m).status = s.status := rfl
@[simp] theorem State.setMask_result (m : BitVec 3) :
    (s.setMask m).result = s.result := rfl
@[simp] theorem State.setMask_resolved (m : BitVec 3) :
    (s.setMask m).resolved = ⟨s.resolved.ver, s.resolved.mode, m⟩ := rfl
@[simp] theorem State.setMask_bitLen (m : BitVec 3) :
    (s.setMask m).bitLen = s.bitLen := rfl
@[simp] theorem State.setMask_format (m : BitVec 3) :
    (s.setMask m).format = s.format := rfl
@[simp] theorem State.setMask_verWord (m : BitVec 3) :
    (s.setMask m).verWord = s.verWord := rfl
@[simp] theorem State.setMask_pen (m : BitVec 3) :
    (s.setMask m).pen = s.pen := rfl
@[simp] theorem State.setMask_score (m : BitVec 3) :
    (s.setMask m).score = s.score := rfl
@[simp] theorem State.setMask_mem (m : BitVec 3) :
    (s.setMask m).mem = s.mem := rfl
@[simp] theorem State.setMask_bufEpoch (m : BitVec 3) :
    (s.setMask m).bufEpoch = s.bufEpoch := rfl
@[simp] theorem State.setMask_busyDraws (m : BitVec 3) :
    (s.setMask m).busyDraws = s.busyDraws := rfl
@[simp] theorem State.setMask_cmdLatency (m : BitVec 3) :
    (s.setMask m).cmdLatency = s.cmdLatency := rfl
@[simp] theorem State.setMask_hostOps (m : BitVec 3) :
    (s.setMask m).hostOps = s.hostOps := rfl
@[simp] theorem State.setMask_reply (m : BitVec 3) :
    (s.setMask m).reply = s.reply := rfl
@[simp] theorem State.writeGrid_phase (b : Buf) (g : Grid) :
    (s.writeGrid b g).phase = s.phase := rfl
@[simp] theorem State.writeGrid_config (b : Buf) (g : Grid) :
    (s.writeGrid b g).config = s.config := rfl
@[simp] theorem State.writeGrid_textLen (b : Buf) (g : Grid) :
    (s.writeGrid b g).textLen = s.textLen := rfl
@[simp] theorem State.writeGrid_cmd (b : Buf) (g : Grid) :
    (s.writeGrid b g).cmd = s.cmd := rfl
@[simp] theorem State.writeGrid_status (b : Buf) (g : Grid) :
    (s.writeGrid b g).status = s.status := rfl
@[simp] theorem State.writeGrid_result (b : Buf) (g : Grid) :
    (s.writeGrid b g).result = s.result := rfl
@[simp] theorem State.writeGrid_resolved (b : Buf) (g : Grid) :
    (s.writeGrid b g).resolved = s.resolved := rfl
@[simp] theorem State.writeGrid_bitLen (b : Buf) (g : Grid) :
    (s.writeGrid b g).bitLen = s.bitLen := rfl
@[simp] theorem State.writeGrid_format (b : Buf) (g : Grid) :
    (s.writeGrid b g).format = s.format := rfl
@[simp] theorem State.writeGrid_verWord (b : Buf) (g : Grid) :
    (s.writeGrid b g).verWord = s.verWord := rfl
@[simp] theorem State.writeGrid_pen (b : Buf) (g : Grid) :
    (s.writeGrid b g).pen = s.pen := rfl
@[simp] theorem State.writeGrid_score (b : Buf) (g : Grid) :
    (s.writeGrid b g).score = s.score := rfl
@[simp] theorem State.writeGrid_mem (b : Buf) (g : Grid) :
    (s.writeGrid b g).mem = s.mem.write b.base g.flatten := rfl
@[simp] theorem State.writeGrid_bufEpoch (b : Buf) (g : Grid) :
    (s.writeGrid b g).bufEpoch = s.bufEpoch := rfl
@[simp] theorem State.writeGrid_busyDraws (b : Buf) (g : Grid) :
    (s.writeGrid b g).busyDraws = s.busyDraws := rfl
@[simp] theorem State.writeGrid_cmdLatency (b : Buf) (g : Grid) :
    (s.writeGrid b g).cmdLatency = s.cmdLatency := rfl
@[simp] theorem State.writeGrid_hostOps (b : Buf) (g : Grid) :
    (s.writeGrid b g).hostOps = s.hostOps := rfl
@[simp] theorem State.writeGrid_reply (b : Buf) (g : Grid) :
    (s.writeGrid b g).reply = s.reply := rfl

/-! ### writeCells -/

@[simp] theorem State.writeCells_phase (cells : List (Nat × Byte)) :
    (s.writeCells cells).phase = s.phase := by
  induction cells generalizing s with
  | nil => rfl
  | cons c cs ih => exact ih _
@[simp] theorem State.writeCells_config (cells : List (Nat × Byte)) :
    (s.writeCells cells).config = s.config := by
  induction cells generalizing s with
  | nil => rfl
  | cons c cs ih => exact ih _
@[simp] theorem State.writeCells_textLen (cells : List (Nat × Byte)) :
    (s.writeCells cells).textLen = s.textLen := by
  induction cells generalizing s with
  | nil => rfl
  | cons c cs ih => exact ih _
@[simp] theorem State.writeCells_cmd (cells : List (Nat × Byte)) :
    (s.writeCells cells).cmd = s.cmd := by
  induction cells generalizing s with
  | nil => rfl
  | cons c cs ih => exact ih _
@[simp] theorem State.writeCells_status (cells : List (Nat × Byte)) :
    (s.writeCells cells).status = s.status := by
  induction cells generalizing s with
  | nil => rfl
  | cons c cs ih => exact ih _
@[simp] theorem State.writeCells_result (cells : List (Nat × Byte)) :
    (s.writeCells cells).result = s.result := by
  induction cells generalizing s with
  | nil => rfl
  | cons c cs ih => exact ih _
@[simp] theorem State.writeCells_resolved (cells : List (Nat × Byte)) :
    (s.writeCells cells).resolved = s.resolved := by
  induction cells generalizing s with
  | nil => rfl
  | cons c cs ih => exact ih _
@[simp] theorem State.writeCells_bitLen (cells : List (Nat × Byte)) :
    (s.writeCells cells).bitLen = s.bitLen := by
  induction cells generalizing s with
  | nil => rfl
  | cons c cs ih => exact ih _
@[simp] theorem State.writeCells_format (cells : List (Nat × Byte)) :
    (s.writeCells cells).format = s.format := by
  induction cells generalizing s with
  | nil => rfl
  | cons c cs ih => exact ih _
@[simp] theorem State.writeCells_verWord (cells : List (Nat × Byte)) :
    (s.writeCells cells).verWord = s.verWord := by
  induction cells generalizing s with
  | nil => rfl
  | cons c cs ih => exact ih _
@[simp] theorem State.writeCells_pen (cells : List (Nat × Byte)) :
    (s.writeCells cells).pen = s.pen := by
  induction cells generalizing s with
  | nil => rfl
  | cons c cs ih => exact ih _
@[simp] theorem State.writeCells_score (cells : List (Nat × Byte)) :
    (s.writeCells cells).score = s.score := by
  induction cells generalizing s with
  | nil => rfl
  | cons c cs ih => exact ih _
@[simp] theorem State.writeCells_bufEpoch (cells : List (Nat × Byte)) :
    (s.writeCells cells).bufEpoch = s.bufEpoch := by
  induction cells generalizing s with
  | nil => rfl
  | cons c cs ih => exact ih _
@[simp] theorem State.writeCells_busyDraws (cells : List (Nat × Byte)) :
    (s.writeCells cells).busyDraws = s.busyDraws := by
  induction cells generalizing s with
  | nil => rfl
  | cons c cs ih => exact ih _
@[simp] theorem State.writeCells_cmdLatency (cells : List (Nat × Byte)) :
    (s.writeCells cells).cmdLatency = s.cmdLatency := by
  induction cells generalizing s with
  | nil => rfl
  | cons c cs ih => exact ih _
@[simp] theorem State.writeCells_hostOps (cells : List (Nat × Byte)) :
    (s.writeCells cells).hostOps = s.hostOps := by
  induction cells generalizing s with
  | nil => rfl
  | cons c cs ih => exact ih _
@[simp] theorem State.writeCells_reply (cells : List (Nat × Byte)) :
    (s.writeCells cells).reply = s.reply := by
  induction cells generalizing s with
  | nil => rfl
  | cons c cs ih => exact ih _

end Sys2Proof.Machine
end

