-- ==== Sys2Proof/Laws/Memory.lean ====
section
/-! SUPPORT. The laws of the buffers' memory: what a write leaves at every offset, and that it keeps the
canonical form. -/

namespace Sys2Proof.Machine

/-! ### Cells of the parts of a write -/

theorem Memory.cell_nil (a : Nat) : Memory.cell [] a = none := rfl

theorem Memory.cell_cons (c : Host.Cell) (m : Memory) (a : Nat) :
    Memory.cell (c :: m) a = if c.1 = a then some c.2 else Memory.cell m a := rfl

/-- A lookup in an append tries the first list, then the second. -/
theorem Memory.cell_append (m₁ m₂ : Memory) (a : Nat) :
    Memory.cell (m₁ ++ m₂) a = (Memory.cell m₁ a).or (Memory.cell m₂ a) := by
  induction m₁ with
  | nil => rfl
  | cons c m ih =>
    by_cases h : c.1 = a <;> simp [Memory.cell_cons, h, ih]

/-- Filtering by the offset keeps a kept offset and loses a dropped one. -/
theorem Memory.cell_filter (m : Memory) (p : Nat → Bool) (a : Nat) :
    Memory.cell (m.filter fun c => p c.1) a = if p a then Memory.cell m a else none := by
  induction m with
  | nil => simp [Memory.cell_nil]
  | cons c m ih =>
    by_cases hp : p c.1 <;> by_cases h : c.1 = a
    · subst h; simp [Memory.cell_cons, hp]
    · simp [Memory.cell_cons, hp, h, ih]
    · subst h; simp [hp, ih]
    · simp [Memory.cell_cons, hp, h, ih]

/-- A run holds its bytes and nothing else. -/
theorem Memory.cell_run (base : Nat) (bs : List Byte) (a : Nat) :
    Memory.cell (Memory.run base bs) a = if base ≤ a then bs[a - base]? else none := by
  induction bs generalizing base with
  | nil => simp [Memory.run, Memory.cell_nil]
  | cons b bs ih =>
    rw [Memory.run, Memory.cell_cons, ih]
    by_cases h : base = a
    · simp [h]
    · by_cases hlt : base + 1 ≤ a
      · have hle : base ≤ a := by omega
        have hs : a - base = (a - (base + 1)) + 1 := by omega
        simp [h, hlt, hle, hs]
      · have hle : ¬ base ≤ a := by omega
        simp [h, hlt, hle]

/-- What a write leaves at every offset: the run's byte inside it, the old cell outside. -/
theorem Memory.cell_write (m : Memory) (base : Nat) (bs : List Byte) (a : Nat) :
    (m.write base bs).cell a =
      if base ≤ a ∧ a < base + bs.length then bs[a - base]? else m.cell a := by
  rw [Memory.write, Memory.cell_append, Memory.cell_append,
    Memory.cell_filter m (fun k => decide (k < base)),
    Memory.cell_filter m (fun k => decide (base + bs.length ≤ k)), Memory.cell_run]
  by_cases hlo : a < base
  · have h1 : ¬ base ≤ a := by omega
    have h2 : ¬ base + bs.length ≤ a := by omega
    simp [hlo, h1, h2]
  · have h1 : base ≤ a := by omega
    by_cases hhi : a < base + bs.length
    · have h2 : ¬ base + bs.length ≤ a := by omega
      simp [hlo, h1, h2, hhi]
    · have h2 : base + bs.length ≤ a := by omega
      have h3 : bs.length ≤ a - base := by omega
      simp [hlo, h1, h2, hhi, h3]

/-! ### The canonical form -/

theorem Memory.wf_nil : Memory.wf [] := by simp [Memory.wf]

/-- The second half of the form holds of every list: an unlisted offset answers no byte. -/
theorem Memory.wf_iff (m : Memory) : m.wf ↔ m.Pairwise (fun a b => a.1 < b.1) := by
  simp [Memory.wf, Memory.unlisted]

/-- A run's offsets lie in its range. -/
theorem Memory.mem_run {base : Nat} {bs : List Byte} {c : Host.Cell} (h : c ∈ Memory.run base bs) :
    base ≤ c.1 ∧ c.1 < base + bs.length := by
  induction bs generalizing base with
  | nil => simp [Memory.run] at h
  | cons b bs ih =>
    rcases List.mem_cons.1 h with rfl | h
    · simp
    · have := ih h
      simp only [List.length_cons]
      omega

theorem Memory.run_pairwise (base : Nat) (bs : List Byte) :
    (Memory.run base bs).Pairwise (fun a b => a.1 < b.1) := by
  induction bs generalizing base with
  | nil => simp [Memory.run]
  | cons b bs ih =>
    refine List.pairwise_cons.2 ⟨fun c hc => ?_, ih _⟩
    have := (Memory.mem_run hc).1
    simp only
    omega

/-- Every write keeps the canonical form. -/
theorem Memory.write_wf {m : Memory} (h : m.wf) (base : Nat) (bs : List Byte) :
    (m.write base bs).wf := by
  rw [Memory.wf_iff] at h ⊢
  rw [Memory.write, List.pairwise_append, List.pairwise_append]
  refine ⟨⟨h.filter _, Memory.run_pairwise _ _, fun a ha b hb => ?_⟩, h.filter _, fun a ha b hb => ?_⟩
  · have := (Memory.mem_run hb).1
    have := (List.mem_filter.1 ha).2
    simp only [decide_eq_true_eq] at this
    omega
  · have hb' := (List.mem_filter.1 hb).2
    simp only [decide_eq_true_eq] at hb'
    rcases List.mem_append.1 ha with ha | ha
    · have := (List.mem_filter.1 ha).2
      simp only [decide_eq_true_eq] at this
      omega
    · have := (Memory.mem_run ha).2
      omega

/-- A write lists no offset but those of its run and those already listed. -/
theorem Memory.mem_write {m : Memory} {base : Nat} {bs : List Byte} {c : Host.Cell}
    (h : c ∈ m.write base bs) : c ∈ m ∨ (base ≤ c.1 ∧ c.1 < base + bs.length) := by
  rw [Memory.write, List.mem_append, List.mem_append] at h
  rcases h with (h | h) | h
  · exact .inl (List.mem_filter.1 h).1
  · exact .inr (Memory.mem_run h)
  · exact .inl (List.mem_filter.1 h).1

/-! ### Reading bytes -/

/-- A byte inside a stored run reads as stored; every other byte reads as before. -/
theorem State.readByte_writeBytes (s : State) (base : Nat) (bs : List Byte) (a : Nat) :
    (s.writeBytes base bs).readByte a =
      if h : base ≤ a ∧ a < base + bs.length then bs[a - base]'(by omega) else s.readByte a := by
  rw [State.readByte, State.writeBytes_mem, State.writeBytes_bufEpoch, Memory.cell_write]
  by_cases h : base ≤ a ∧ a < base + bs.length
  · have hl : a - base < bs.length := by omega
    simp [h, hl]
  · simp [h, State.readByte]

theorem State.readByte_writeBytes_outside (s : State) {base : Nat} {bs : List Byte} {a : Nat}
    (h : a < base ∨ base + bs.length ≤ a) : (s.writeBytes base bs).readByte a = s.readByte a := by
  rw [State.readByte_writeBytes, dif_neg (by omega)]

theorem State.readByte_writeBytes_inside (s : State) (base : Nat) (bs : List Byte) {i : Nat}
    (h : i < bs.length) : (s.writeBytes base bs).readByte (base + i) = bs[i] := by
  rw [State.readByte_writeBytes, dif_pos (by omega)]
  simp

@[simp] theorem State.readBytes_length (s : State) (base len : Nat) :
    (s.readBytes base len).length = len := by simp [State.readBytes]

@[simp] theorem State.readBytes_getElem (s : State) (base len : Nat) {i : Nat}
    (h : i < (s.readBytes base len).length) :
    (s.readBytes base len)[i] = s.readByte (base + i) := by simp [State.readBytes]

/-- Reading depends on the memory and the BUF_INIT draw alone. -/
theorem State.readByte_congr {s t : State} (hm : t.mem = s.mem) (he : t.bufEpoch = s.bufEpoch)
    (a : Nat) : t.readByte a = s.readByte a := by rw [State.readByte, State.readByte, hm, he]

theorem State.readBytes_congr {s t : State} {base len : Nat}
    (h : ∀ i < len, t.readByte (base + i) = s.readByte (base + i)) :
    t.readBytes base len = s.readBytes base len := by
  apply List.map_congr_left
  intro i hi
  exact h i (List.mem_range.1 hi)

/-- Reading back a whole stored run. -/
theorem State.readBytes_writeBytes (s : State) (base : Nat) (bs : List Byte) :
    (s.writeBytes base bs).readBytes base bs.length = bs := by
  apply List.ext_getElem (by simp)
  intro i h₁ h₂
  rw [State.readBytes_getElem, State.readByte_writeBytes_inside s base bs h₂]

end Sys2Proof.Machine
end

