-- ==== Sys2Proof/Laws/Ops.lean ====
section
/-! SUPPORT. One lemma per shared operation: everything it can do, cited instead of unfolding it. -/

namespace Sys2Proof.Machine

/-- A successful completion answers the state with the command's writes, DONE set and PHASE idle. -/
theorem complete_eq (s : State) :
    complete s = .next { s with status := { s.status with done := true }, phase := .idle } := rfl

theorem complete_next {s t : State} (h : complete s = .next t) :
    t = { s with status := { s.status with done := true }, phase := .idle } := by
  rw [complete_eq] at h
  exact (Host.Outcome.next.inj h).symm

/-- Error entry changes STATUS and PHASE alone. -/
theorem raise_eq (e : CmdError) (s : State) :
    raise e s = .next { s with status := s.status.record e, phase := .idle } := rfl

theorem raise_next {e : CmdError} {s t : State} (h : raise e s = .next t) :
    t = { s with status := s.status.record e, phase := .idle } := by
  rw [raise_eq] at h
  exact (Host.Outcome.next.inj h).symm

/-- The first error is recorded whole. -/
theorem StatusReg.record_first {st : StatusReg} (h : st.err = false) (e : CmdError) :
    st.record e = { st with err := true, errCode := e.code.code, errMode := e.mode, errEcl := e.ecl } := by
  simp [StatusReg.record, h]

/-- A later error sets MULTI alone. -/
theorem StatusReg.record_later {st : StatusReg} (h : st.err = true) (e : CmdError) :
    st.record e = { st with multi := true } := by
  simp [StatusReg.record, h]

@[simp] theorem StatusReg.record_done (st : StatusReg) (e : CmdError) :
    (st.record e).done = st.done := by
  unfold StatusReg.record; split <;> rfl

@[simp] theorem StatusReg.record_err (st : StatusReg) (e : CmdError) : (st.record e).err = true := by
  unfold StatusReg.record; split
  · assumption
  · rfl

/-- The resolved version is RESOLVED.VER exactly when it lies in 1..10. -/
theorem State.resolvedVersion_eq_some {s : State} {v : Nat} :
    s.resolvedVersion = some v ↔ s.resolved.ver.toNat = v ∧ 1 ≤ v ∧ v ≤ 10 := by
  unfold State.resolvedVersion versionOK
  constructor
  · intro h
    split at h
    · rename_i hv
      simp only [Bool.and_eq_true, decide_eq_true_eq] at hv
      cases h
      exact ⟨rfl, hv⟩
    · cases h
  · rintro ⟨rfl, h₁, h₂⟩
    simp [h₁, h₂]

/-- A stage command runs on the resolved version or raises BAD_CONFIG. -/
theorem withVersion_eq (s : State) (k : Nat → Host.Outcome State Fault Refusal) :
    (∃ v, s.resolvedVersion = some v ∧ withVersion s k = k v) ∨
      (s.resolvedVersion = none ∧ withVersion s k = raise (.plain .badConfig) s) := by
  unfold withVersion
  cases h : s.resolvedVersion with
  | none => exact .inr ⟨rfl, rfl⟩
  | some v => exact .inl ⟨v, rfl, rfl⟩

/-- A stage command whose continuation always answers a next state answers one. -/
theorem withVersion_next {s : State} {k : Nat → Host.Outcome State Fault Refusal}
    (h : ∀ v, s.resolvedVersion = some v → ∃ t, k v = .next t) : ∃ t, withVersion s k = .next t := by
  rcases withVersion_eq s k with ⟨v, hv, hk⟩ | ⟨_, hk⟩
  · obtain ⟨t, ht⟩ := h v hv
    exact ⟨t, hk.trans ht⟩
  · exact ⟨_, hk⟩

/-! ### The host's operations -/

/-- Everything a command write can do while PHASE = IDLE. -/
theorem issueCommand_cases (w : Word) (s : State) :
    (s.status.err = true ∧ issueCommand w s = s.setStatus { s.status with multi := true }) ∨
      (s.status.err = false ∧ issueCommand w s = acceptCommand w s) := by
  unfold issueCommand
  cases h : s.status.err <;> simp

/-- Everything a host read can do. -/
theorem hostRead_cases (off : Offset) (w : Width) (s : State) :
    (target off w = none ∧
        hostRead off w s = (recordError (.plain .badAccess) s).setReply (some 0)) ∨
      (∃ t, target off w = some t ∧ s.phase.isBusy = true ∧ t.exactWhileBusy = false ∧
        hostRead off w s = (s.setReply (some (s.freshRead t))).setBusyDraws (s.busyDraws + 1)) ∨
      (∃ t, target off w = some t ∧ (s.phase.isBusy = false ∨ t.exactWhileBusy = true) ∧
        hostRead off w s = s.setReply (some (s.targetValue t))) := by
  unfold hostRead
  cases ht : target off w with
  | none => exact .inl ⟨rfl, rfl⟩
  | some t => cases hb : s.phase.isBusy <;> cases he : t.exactWhileBusy <;> simp [he]

/-- A write reaches what a read reaches, but for a read-only register (log 9). -/
theorem writable_eq_some {off : Offset} {w : Width} {t : Target} :
    writable off w = some t ↔ target off w = some t ∧ t.readOnly = false := by
  simp [writable, Option.filter_eq_some_iff]

theorem writable_of_not_readOnly {off : Offset} {w : Width} {t : Target} (h : target off w = some t)
    (hr : t.readOnly = false) : writable off w = some t :=
  writable_eq_some.2 ⟨h, hr⟩

theorem writable_of_readOnly {off : Offset} {w : Width} {t : Target} (h : target off w = some t)
    (hr : t.readOnly = true) : writable off w = none := by
  simp [writable, h, hr]

theorem writable_none {off : Offset} {w : Width} (h : target off w = none) : writable off w = none := by
  simp [writable, h]

/-- Everything a host write can do. -/
theorem hostWrite_cases (off : Offset) (w : Width) (v : Word) (s : State) :
    (writable off w = none ∧ hostWrite off w v s = recordError (.plain .badAccess) s) ∨
      (∃ t, writable off w = some t ∧ s.phase.isBusy = true ∧ t ≠ .reg .status ∧
        hostWrite off w v s = recordError (.plain .busyWrite) s) ∨
      (∃ t, writable off w = some t ∧ (s.phase.isBusy = false ∨ t = .reg .status) ∧
        hostWrite off w v s = writeTarget t v s) := by
  unfold hostWrite
  cases ht : writable off w with
  | none => exact .inl ⟨rfl, rfl⟩
  | some t =>
    cases hb : s.phase.isBusy <;> by_cases hs : t = .reg .status <;> simp [hs]

end Sys2Proof.Machine
end

