-- ==== Sys2Proof/Laws/Grid.lean ====
section
/-! SUPPORT. The grids of GRID and MASKMAP (10_state.md R46, R47): what reading and storing one does at
every cell, and what a list of single-cell stores leaves alone. -/

namespace Sys2Proof.Machine

/-- n rows of n cells. -/
abbrev Grid.square (g : Grid) (n : Nat) : Prop := g.length = n ∧ ∀ row ∈ g, row.length = n

/-! ### Cells of a list grid -/

theorem Grid.at_eq (g : Grid) (r c : Nat) : g.at r c = ((g[r]?.getD [])[c]?).getD 0 := by
  simp [Grid.at, List.getD_eq_getElem?_getD]

/-- Row-major order: entry r·n + c of the flattened rows is cell (r, c). -/
theorem Grid.flatten_getElem? {g : Grid} {n : Nat} (h : ∀ row ∈ g, row.length = n) {r c : Nat}
    (hc : c < n) : g.flatten[r * n + c]? = (g[r]?.getD [])[c]? := by
  induction g generalizing r with
  | nil => simp
  | cons row g ih =>
    have hl : row.length = n := h row (by simp)
    have ht : ∀ row' ∈ g, row'.length = n := fun row' hr => h row' (by simp [hr])
    cases r with
    | zero => simp [List.getElem?_append, hl, hc]
    | succ r =>
      have hs : (r + 1) * n + c = n + (r * n + c) := by
        rw [Nat.succ_mul]; omega
      rw [List.flatten_cons, hs, ← hl, List.getElem?_append_right (by omega), Nat.add_sub_cancel_left,
        hl, ih ht]
      simp

theorem Grid.square_flatten_length {g : Grid} {n : Nat} (h : g.square n) :
    g.flatten.length = n * n := by
  have : g.map List.length = List.replicate n n := by
    rw [← h.1]
    exact List.eq_replicate_iff.2 ⟨by simp, fun k hk => by
      obtain ⟨row, hr, rfl⟩ := List.mem_map.1 hk
      rw [h.1]; exact h.2 row hr⟩
  simp [List.length_flatten, this]

/-- The offset of a cell inside the grid lies inside the n·n bytes. -/
theorem cell_index_lt {n r c : Nat} (hr : r < n) (hc : c < n) : r * n + c < n * n := by
  calc r * n + c < r * n + n := by omega
    _ = (r + 1) * n := by rw [Nat.succ_mul]
    _ ≤ n * n := Nat.mul_le_mul_right n hr

/-! ### Reading a grid -/

theorem State.readGrid_square (s : State) (b : Buf) (n : Nat) : (s.readGrid b n).square n := by
  refine ⟨by simp [State.readGrid], fun row hr => ?_⟩
  obtain ⟨r, _, rfl⟩ := List.mem_map.1 hr
  simp

/-- A cell of the grid read is the byte at r·n + c (R46). -/
theorem State.at_readGrid (s : State) (b : Buf) {n r c : Nat} (hr : r < n) (hc : c < n) :
    (s.readGrid b n).at r c = s.readByte (b.base + (r * n + c)) := by
  rw [Grid.at_eq]
  simp [State.readGrid, State.readBytes, hr, hc, Nat.add_assoc]

theorem State.gridCell_eq (s : State) {n r c : Nat} (hr : r < n) (hc : c < n) :
    s.gridCell n r c = (s.readGrid .grid n).at r c := (s.at_readGrid .grid hr hc).symm

theorem State.mapCell_eq (s : State) {n r c : Nat} (hr : r < n) (hc : c < n) :
    s.mapCell n r c = (s.readGrid .maskMap n).at r c := (s.at_readGrid .maskMap hr hc).symm

/-! ### Storing a grid -/

/-- A stored grid reads back cell by cell. -/
theorem State.readByte_writeGrid_inside (s : State) (b : Buf) {g : Grid} {n r c : Nat}
    (h : g.square n) (hr : r < n) (hc : c < n) :
    (s.writeGrid b g).readByte (b.base + (r * n + c)) = g.at r c := by
  have hi : r * n + c < g.flatten.length := by
    rw [Grid.square_flatten_length h]; exact cell_index_lt hr hc
  rw [State.writeGrid, State.readByte_writeBytes_inside s b.base g.flatten hi, Grid.at_eq,
    ← Grid.flatten_getElem? h.2 hc, List.getElem?_eq_getElem hi]
  rfl

/-- A stored grid changes no byte outside its n·n cells. -/
theorem State.readByte_writeGrid_outside (s : State) (b : Buf) {g : Grid} {n a : Nat}
    (h : g.square n) (ha : a < b.base ∨ b.base + n * n ≤ a) :
    (s.writeGrid b g).readByte a = s.readByte a :=
  s.readByte_writeBytes_outside (by rwa [Grid.square_flatten_length h])

/-- A stored grid reads back whole. -/
theorem State.readGrid_writeGrid (s : State) (b : Buf) {g : Grid} {n : Nat} (h : g.square n)
    {r c : Nat} (hr : r < n) (hc : c < n) : ((s.writeGrid b g).readGrid b n).at r c = g.at r c := by
  rw [State.at_readGrid _ b hr hc, State.readByte_writeGrid_inside s b h hr hc]

/-- The list of rows read back is the grid stored. -/
theorem State.readGrid_writeGrid_eq (s : State) (b : Buf) {g : Grid} {n : Nat} (h : g.square n) :
    (s.writeGrid b g).readGrid b n = g := by
  have hs := (s.writeGrid b g).readGrid_square b n
  refine List.ext_getElem (hs.1.trans h.1.symm) fun r hr₁ hr₂ => ?_
  have hl₁ := hs.2 _ (List.getElem_mem hr₁)
  have hl₂ := h.2 _ (List.getElem_mem hr₂)
  refine List.ext_getElem (hl₁.trans hl₂.symm) fun c hc₁ hc₂ => ?_
  have := State.readGrid_writeGrid s b h (hs.1 ▸ hr₁) (hl₁ ▸ hc₁)
  simpa only [Grid.at_eq, List.getElem?_eq_getElem hr₁, List.getElem?_eq_getElem hr₂,
    Option.getD_some, List.getElem?_eq_getElem hc₁, List.getElem?_eq_getElem hc₂] using this

/-! ### Storing single cells -/

/-- Single-cell stores change no byte whose offset is not among theirs. -/
theorem State.readByte_writeCells_outside (s : State) {cells : List (Nat × Byte)} {a : Nat}
    (h : ∀ c ∈ cells, c.1 ≠ a) : (s.writeCells cells).readByte a = s.readByte a := by
  induction cells generalizing s with
  | nil => rfl
  | cons c cs ih =>
    have hc : c.1 ≠ a := h c (by simp)
    rw [State.writeCells, List.foldl_cons]
    exact (ih (s.writeBytes c.1 [c.2]) fun c' hc' => h c' (by simp [hc'])).trans
      (s.readByte_writeBytes_outside (by simp; omega))

/-- Single-cell stores at distinct offsets each read back. -/
theorem State.readByte_writeCells_inside (s : State) {cells : List (Nat × Byte)}
    (hd : (cells.map Prod.fst).Nodup) {c : Nat × Byte} (hc : c ∈ cells) :
    (s.writeCells cells).readByte c.1 = c.2 := by
  induction cells generalizing s with
  | nil => simp at hc
  | cons d ds ih =>
    rw [List.map_cons, List.nodup_cons] at hd
    rw [State.writeCells, List.foldl_cons]
    rcases List.mem_cons.1 hc with rfl | hc
    · have ho : ∀ e ∈ ds, e.1 ≠ c.1 := fun e he hEq => hd.1 (hEq ▸ List.mem_map_of_mem he)
      have := State.readByte_writeBytes_inside s c.1 [c.2] (i := 0) (by simp)
      rw [Nat.add_zero] at this
      exact (State.readByte_writeCells_outside (s.writeBytes c.1 [c.2]) ho).trans this
    · exact ih (s.writeBytes d.1 [d.2]) hd.2 hc

end Sys2Proof.Machine
end

