-- ==== Sys2Proof/Laws/PerInstr.lean ====
section
/-! SUPPORT. The per-command family `Encoded`: the word of every well-formed command has its row's match
value under its row's mask (30_encoding.md R103). -/

namespace Sys2Proof.Laws

open Sys2Proof.Machine

/-! ### Bits of an operand field under a mask -/

/-- A number below 2^k has no bit under a mask that has none below k. -/
theorem ofNat_and_mask {e k : Nat} {m : Word} (he : e < 2 ^ k)
    (hm : BitVec.ofNat 32 (2 ^ k - 1) &&& m = 0) : BitVec.ofNat 32 e &&& m = 0 := by
  have h : BitVec.ofNat 32 e = BitVec.ofNat 32 e &&& BitVec.ofNat 32 (2 ^ k - 1) := by
    rw [← BitVec.ofNat_and, Nat.and_two_pow_sub_one_of_lt_two_pow he]
  rw [h, BitVec.and_assoc, hm]
  exact BitVec.and_zero

/-- A byte operand in bits [7:0]. -/
theorem byte_and_mask {m : Word} (hm : 0xFF#32 &&& m = 0) (a : Byte) : a.setWidth 32 &&& m = 0 := by
  have h : a.setWidth 32 = a.setWidth 32 &&& 0xFF#32 := by revert a; decide +kernel
  rw [h, BitVec.and_assoc, hm]
  exact BitVec.and_zero

/-- A byte operand in bits [15:8]. -/
theorem byte_shift8_and_mask {m : Word} (hm : 0xFF00#32 &&& m = 0) (a : Byte) :
    a.setWidth 32 <<< 8 &&& m = 0 := by
  have h : a.setWidth 32 <<< 8 = a.setWidth 32 <<< 8 &&& 0xFF00#32 := by revert a; decide +kernel
  rw [h, BitVec.and_assoc, hm]
  exact BitVec.and_zero

/-- A byte operand in bits [23:16]. -/
theorem byte_shift16_and_mask {m : Word} (hm : 0xFF0000#32 &&& m = 0) (a : Byte) :
    a.setWidth 32 <<< 16 &&& m = 0 := by
  have h : a.setWidth 32 <<< 16 = a.setWidth 32 <<< 16 &&& 0xFF0000#32 := by revert a; decide +kernel
  rw [h, BitVec.and_assoc, hm]
  exact BitVec.and_zero

/-- Two operands and a match value under the row's mask: the operands vanish. -/
theorem or_or_and_mask {x y z m : Word} (hy : y &&& m = 0) (hz : z &&& m = 0) :
    (x ||| y ||| z) &&& m = x &&& m := by
  ext i hi
  have h1 := congrArg (fun w : Word => w[i]) hy
  have h2 := congrArg (fun w : Word => w[i]) hz
  simp at h1 h2 ⊢
  cases hm : m[i] <;> simp_all

/-- One operand and a match value under the row's mask. -/
theorem or_and_mask {x y m : Word} (hy : y &&& m = 0) : (x ||| y) &&& m = x &&& m := by
  simpa using or_or_and_mask (x := x) (y := y) (z := 0) (m := m) hy (by simp)

namespace Encoded

/-- The command's word matches the row of its mnemonic. -/
def Statement (i : Instr) : Prop :=
  i.wellFormed = true → ∃ row ∈ opcodeMap, row.mnemonic = i.mnemonic ∧
    encode i &&& row.mask = row.matchWord

theorem nop : Statement .nop := fun _ => ⟨⟨"NOP", 0x00000000, 0xFFFFFFFF⟩, by decide, rfl, by decide⟩

theorem gfmul (a b : Byte) : Statement (.gfmul a b) := fun _ =>
  ⟨⟨"GFMUL", 0x01000000, 0xFFFF0000⟩, by decide, rfl,
    (or_or_and_mask (byte_shift8_and_mask (by decide) a) (byte_and_mask (by decide) b)).trans
      (by decide)⟩

theorem gfpow (a : Byte) (e : Nat) : Statement (.gfpow a e) := fun h =>
  ⟨⟨"GFPOW", 0x02000000, 0xFF000000⟩, by decide, rfl,
    (or_or_and_mask (byte_shift16_and_mask (by decide) a)
      (ofNat_and_mask (k := 16) (by simpa [Instr.wellFormed] using h) (by decide))).trans (by decide)⟩

theorem gfexp (i : Nat) : Statement (.gfexp i) := fun h =>
  ⟨⟨"GFEXP", 0x03000000, 0xFFFFFE00⟩, by decide, rfl,
    (or_and_mask (ofNat_and_mask (k := 9) (by simpa [Instr.wellFormed] using h) (by decide))).trans
      (by decide)⟩

theorem gflog (a : Byte) : Statement (.gflog a) := fun _ =>
  ⟨⟨"GFLOG", 0x04000000, 0xFFFFFF00⟩, by decide, rfl,
    (or_and_mask (byte_and_mask (by decide) a)).trans (by decide)⟩

theorem select : Statement .select := fun _ =>
  ⟨⟨"SELECT", 0x10000000, 0xFFFFFFFF⟩, by decide, rfl, by decide⟩

theorem pack : Statement .pack := fun _ =>
  ⟨⟨"PACK", 0x11000000, 0xFFFFFFFF⟩, by decide, rfl, by decide⟩

theorem rsgen (ec : Nat) : Statement (.rsgen ec) := fun h =>
  ⟨⟨"RSGEN", 0x20000000, 0xFFFFFFC0⟩, by decide, rfl,
    (or_and_mask (ofNat_and_mask (k := 6) (by simpa [Instr.wellFormed] using h) (by decide))).trans
      (by decide)⟩

theorem rsenc (len ec : Nat) : Statement (.rsenc len ec) := fun h => by
  simp only [Instr.wellFormed, Bool.and_eq_true, decide_eq_true_eq] at h
  have hl : (BitVec.ofNat 32 len <<< 8) &&& 0xFFFF00C0 = 0 := by
    have h8 : BitVec.ofNat 32 len = (BitVec.ofNat 8 len).setWidth 32 := by
      apply BitVec.eq_of_toNat_eq
      simp
      omega
    rw [h8]
    exact byte_shift8_and_mask (by decide) _
  exact ⟨⟨"RSENC", 0x21000000, 0xFFFF00C0⟩, by decide, rfl,
    (or_or_and_mask hl (ofNat_and_mask (k := 6) h.2 (by decide))).trans (by decide)⟩

theorem ecenc : Statement .ecenc := fun _ =>
  ⟨⟨"ECENC", 0x22000000, 0xFFFFFFFF⟩, by decide, rfl, by decide⟩

theorem buildstruct : Statement .buildstruct := fun _ =>
  ⟨⟨"BUILDSTRUCT", 0x30000000, 0xFFFFFFFF⟩, by decide, rfl, by decide⟩

theorem placedata : Statement .placedata := fun _ =>
  ⟨⟨"PLACEDATA", 0x31000000, 0xFFFFFFFF⟩, by decide, rfl, by decide⟩

theorem applymask (m : BitVec 3) : Statement (.applymask m) := fun _ =>
  ⟨⟨"APPLYMASK", 0x40000000, 0xFFFFFFF8⟩, by decide, rfl, by revert m; decide⟩

theorem score : Statement .score := fun _ =>
  ⟨⟨"SCORE", 0x41000000, 0xFFFFFFFF⟩, by decide, rfl, by decide⟩

theorem selectmask : Statement .selectmask := fun _ =>
  ⟨⟨"SELECTMASK", 0x42000000, 0xFFFFFFFF⟩, by decide, rfl, by decide⟩

theorem fmtbits (l : BitVec 2) (m : BitVec 3) : Statement (.fmtbits l m) := fun _ =>
  ⟨⟨"FMTBITS", 0x50000000, 0xFFFFFFE0⟩, by decide, rfl, by revert l m; decide⟩

theorem verbits (v : Nat) : Statement (.verbits v) := fun h =>
  ⟨⟨"VERBITS", 0x51000000, 0xFFFFFFC0⟩, by decide, rfl,
    (or_and_mask (ofNat_and_mask (k := 6) (by simpa [Instr.wellFormed] using h) (by decide))).trans
      (by decide)⟩

theorem writefmt : Statement .writefmt := fun _ =>
  ⟨⟨"WRITEFMT", 0x52000000, 0xFFFFFFFF⟩, by decide, rfl, by decide⟩

theorem writever : Statement .writever := fun _ =>
  ⟨⟨"WRITEVER", 0x53000000, 0xFFFFFFFF⟩, by decide, rfl, by decide⟩

theorem encode : Statement .encode := fun _ =>
  ⟨⟨"ENCODE", 0x60000000, 0xFFFFFFFF⟩, by decide, rfl, by decide⟩

end Encoded

end Sys2Proof.Laws
end

