-- ==== Sys2Proof/Laws/Step.lean ====
section
/-! SUPPORT. What one step can do, said once. -/

namespace Sys2Proof.Machine

/-- While PHASE = IDLE a step is the host's cycle. -/
theorem step_idle {s : State} (h : s.phase = .idle) : step s = .next (hostCycle s) := by
  simp [step, cycle, h]

/-- A command whose latency has passed is executed by the engine. -/
theorem step_due {s : State} (h : s.phase = .busy 0) : step s = engine s := by
  simp [step, cycle, h]

/-- While latency remains, a cycle of it passes and the host has its cycle. -/
theorem step_waiting {s : State} {k : Nat} (h : s.phase = .busy (k + 1)) :
    step s = .next (hostCycle (s.setPhase (.busy k))) := by
  simp [step, cycle, h]

/-- The engine runs a legal command word's command. -/
theorem engine_legal {s : State} {i : Instr} (h : decode s.cmd = .ok i) : engine s = exec i s := by
  simp [engine, h]

/-- The engine raises ILLEGAL_COMMAND for any other word. -/
theorem engine_illegal {s : State} {e : Reject} (h : decode s.cmd = .error e) :
    engine s = raise (.plain .illegalCommand) s := by
  simp [engine, h]

/-- Everything a host's cycle can do. -/
theorem hostCycle_cases (s : State) :
    (s.hostOps = [] ∧ hostCycle s = s) ∨
      (∃ op rest, s.hostOps = op :: rest ∧ hostCycle s = perform op (s.setHostOps rest)) := by
  unfold hostCycle
  cases h : s.hostOps with
  | nil => exact .inl ⟨rfl, rfl⟩
  | cons op rest => exact .inr ⟨op, rest, rfl, rfl⟩

/-- `withFetchWord` loads the command register and makes the command due. -/
theorem State.withFetchWord_cmd (s : State) (nbits w : Nat) :
    (s.withFetchWord nbits w).cmd = tableWord nbits w := rfl

theorem State.withFetchWord_phase (s : State) (nbits w : Nat) :
    (s.withFetchWord nbits w).phase = .busy 0 := rfl

end Sys2Proof.Machine
end

