-- ==== Sys2Proof/Tests/Slice0.lean ====
section
/-! SUPPORT. The model's own tests: ill-formed terms the check refuses, decode tests on words written from
30_encoding.md R100 to R103 field by field, vectors of 95_test_vectors.md (the id stands in each docstring),
and a witness for the hypotheses of every statement in Obligations.lean. -/

set_option Elab.async false

namespace Sys2Proof.Tests

open Sys2Proof.Machine

/-! ### Helpers -/

/-- The outcome is a next state that satisfies p. -/
def answers (o : Host.Outcome State Fault Refusal) (p : State → Bool) : Bool :=
  match o with
  | .next t => p t
  | .fault _ => false
  | .refused _ => false

theorem exists_of_answers {o : Host.Outcome State Fault Refusal} {p : State → Bool}
    (h : answers o p = true) : ∃ t, o = .next t ∧ p t = true := by
  cases o with
  | next t => exact ⟨t, rfl, h⟩
  | fault f => cases h
  | refused r => cases h

/-- After reset, with RESOLVED.VER = v and CONFIG.ECL = l. -/
def atVer (v : Nat) (l : BitVec 2) : State :=
  (State.reset.setResolved ⟨BitVec.ofNat 4 v, 0, 0⟩).setConfig ⟨l, 0, 8, 0, false⟩

/-- After reset and LOADTEXT, with CONFIG.ECL = l, VREQ = vr and MODEREQ = md. -/
def withText (t : List Byte) (l : BitVec 2) (vr : BitVec 4) (md : BitVec 2) : State :=
  ((State.reset.writeBytes 0x1000 t).setTextLen (BitVec.ofNat 16 t.length)).setConfig
    ⟨l, vr, 8, md, false⟩

/-- "HELLO WORLD". -/
def hello : List Byte := [0x48, 0x45, 0x4C, 0x4C, 0x4F, 0x20, 0x57, 0x4F, 0x52, 0x4C, 0x44]

/-- Version 1 with every cell of GRID x and every cell of MASKMAP k. -/
def flat (x k : Byte) : State :=
  ((atVer 1 1).writeBytes 0x2000 (List.replicate 441 x)).writeBytes 0x3000 (List.replicate 441 k)

theorem flat_grid (x k : Byte) {r c : Nat} (hr : r < 21) (hc : c < 21) :
    (flat x k).gridCell 21 r c = x := by
  have hi : r * 21 + c < (List.replicate 441 x).length := by
    rw [List.length_replicate]; exact cell_index_lt hr hc
  have hi' := hi
  rw [List.length_replicate] at hi'
  rw [State.gridCell, flat,
    State.readByte_writeBytes_outside _ (.inl (by omega)),
    State.readByte_writeBytes_inside _ _ _ hi, List.getElem_replicate]

theorem flat_map (x k : Byte) {r c : Nat} (hr : r < 21) (hc : c < 21) :
    (flat x k).mapCell 21 r c = k := by
  have hi : r * 21 + c < (List.replicate 441 k).length := by
    rw [List.length_replicate]; exact cell_index_lt hr hc
  rw [State.mapCell, flat, State.readByte_writeBytes_inside _ _ _ hi, List.getElem_replicate]

/-- Version 1 with GRID as BUILDSTRUCT leaves it. -/
def structured : State := (atVer 1 1).writeGrid .grid (buildGrid 1)

/-! ### WellFormed: an ill-formed term for each check -/

theorem test_wf_gfpow_exponent : (Instr.gfpow 1 65536).wellFormed = false := by decide
theorem test_wf_gfexp_index : (Instr.gfexp 512).wellFormed = false := by decide
theorem test_wf_rsgen_count : (Instr.rsgen 64).wellFormed = false := by decide
theorem test_wf_rsenc_length : (Instr.rsenc 256 1).wellFormed = false := by decide
theorem test_wf_rsenc_count : (Instr.rsenc 1 64).wellFormed = false := by decide
theorem test_wf_verbits_version : (Instr.verbits 64).wellFormed = false := by decide
theorem test_wf_largest_operands : (Instr.gfpow 255 65535).wellFormed = true ∧
    (Instr.gfexp 511).wellFormed = true ∧ (Instr.rsgen 63).wellFormed = true ∧
    (Instr.rsenc 255 63).wellFormed = true ∧ (Instr.verbits 63).wellFormed = true := by decide

/-! ### Decode: every constructor, its word written field by field from R101 and R103 -/

theorem test_decode_nop : decode (0x00#8 ++ 0#24) = .ok .nop := by decide +kernel
/-- V-G1. -/
theorem test_decode_gfmul : decode (0x01#8 ++ 0#8 ++ 0x53#8 ++ 0xCA#8) = .ok (.gfmul 0x53 0xCA) := by
  decide +kernel
/-- V-G12. -/
theorem test_decode_gfpow : decode (0x02#8 ++ 2#8 ++ 300#16) = .ok (.gfpow 2 300) := by decide +kernel
/-- V-G23. -/
theorem test_decode_gfexp : decode (0x03#8 ++ 0#15 ++ 511#9) = .ok (.gfexp 511) := by decide +kernel
/-- V-G26. -/
theorem test_decode_gflog : decode (0x04#8 ++ 0#16 ++ 29#8) = .ok (.gflog 29) := by decide +kernel
theorem test_decode_select : decode (0x10#8 ++ 0#24) = .ok .select := by decide +kernel
theorem test_decode_pack : decode (0x11#8 ++ 0#24) = .ok .pack := by decide +kernel
/-- V-R8. -/
theorem test_decode_rsgen : decode (0x20#8 ++ 0#18 ++ 30#6) = .ok (.rsgen 30) := by decide +kernel
/-- V-R18. -/
theorem test_decode_rsenc : decode (0x21#8 ++ 0#8 ++ 250#8 ++ 0#2 ++ 6#6) = .ok (.rsenc 250 6) := by
  decide +kernel
theorem test_decode_ecenc : decode (0x22#8 ++ 0#24) = .ok .ecenc := by decide +kernel
theorem test_decode_buildstruct : decode (0x30#8 ++ 0#24) = .ok .buildstruct := by decide +kernel
theorem test_decode_placedata : decode (0x31#8 ++ 0#24) = .ok .placedata := by decide +kernel
/-- R240's example. -/
theorem test_decode_applymask : decode (0x40#8 ++ 0#21 ++ 6#3) = .ok (.applymask 6) := by
  decide +kernel
theorem test_decode_score : decode (0x41#8 ++ 0#24) = .ok .score := by decide +kernel
theorem test_decode_selectmask : decode (0x42#8 ++ 0#24) = .ok .selectmask := by decide +kernel
/-- V-F3. -/
theorem test_decode_fmtbits : decode (0x50#8 ++ 0#19 ++ 2#2 ++ 6#3) = .ok (.fmtbits 2 6) := by
  decide +kernel
/-- V-F14. -/
theorem test_decode_verbits : decode (0x51#8 ++ 0#18 ++ 63#6) = .ok (.verbits 63) := by decide +kernel
theorem test_decode_writefmt : decode (0x52#8 ++ 0#24) = .ok .writefmt := by decide +kernel
theorem test_decode_writever : decode (0x53#8 ++ 0#24) = .ok .writever := by decide +kernel
theorem test_decode_encode : decode (0x60#8 ++ 0#24) = .ok .encode := by decide +kernel
/-- V-G31, V-G32, V-F15 and P4 step 6: illegal words. -/
theorem test_decode_illegal : decode 0x01010000 = .error (.reservedBitSet "GFMUL") ∧
    decode 0x03000200 = .error (.reservedBitSet "GFEXP") ∧
    decode 0x50000020 = .error (.reservedBitSet "FMTBITS") ∧
    decode 0xFF000000 = .error (.unknownOpcode 0xFF) := by decide +kernel
/-- The words of R106's table and of V-R11. -/
theorem test_encode_words : encode (.gfmul 0x53 0xCA) = 0x010053CA ∧
    encode (.gfpow 5 65535) = 0x0205FFFF ∧ encode (.rsenc 5 5) = 0x21000505 ∧
    encode (.fmtbits 3 7) = 0x5000001F := by decide +kernel
/-- R106: a letter for the level, a hexadecimal operand, and an operand that does not fit. -/
theorem test_assemble : assemble "FMTBITS Q, 6".toList = some 0x50000016 ∧
    assemble "GFMUL 0x53, 0xCA".toList = some 0x010053CA ∧
    assemble "GFEXP 512".toList = none := by decide +kernel

/-! ### One step of each command, from 95_test_vectors.md -/

theorem test_nop_completes :
    answers (exec .nop State.reset) (fun t => t.statusWord == 2) = true := by decide +kernel
/-- V-G1. -/
theorem test_gfmul_product :
    answers (exec (.gfmul 0x53 0xCA) State.reset) (fun t => t.result == 0x8F) = true := by decide +kernel
/-- V-G10. -/
theorem test_gfmul_zero :
    answers (exec (.gfmul 0x45 0) State.reset) (fun t => t.result == 0) = true := by decide +kernel
/-- V-G12. -/
theorem test_gfpow_wraps :
    answers (exec (.gfpow 2 300) State.reset) (fun t => t.result == 193) = true := by decide +kernel
/-- V-G15. -/
theorem test_gfpow_zero_zero :
    answers (exec (.gfpow 0 0) State.reset) (fun t => t.result == 1) = true := by decide +kernel
/-- V-G20. -/
theorem test_gfexp_last_of_cycle :
    answers (exec (.gfexp 254) State.reset) (fun t => t.result == 142) = true := by decide +kernel
/-- V-G23. -/
theorem test_gfexp_last :
    answers (exec (.gfexp 511) State.reset) (fun t => t.result == 2) = true := by decide +kernel
/-- V-G27. -/
theorem test_gflog_255 :
    answers (exec (.gflog 255) State.reset) (fun t => t.result == 175) = true := by decide +kernel
/-- V-G30. -/
theorem test_gflog_zero :
    answers (exec (.gflog 0) State.reset) (fun t => t.statusWord == 0x304) = true := by decide +kernel
/-- V-B1. -/
theorem test_select_hello : answers (exec .select (withText hello 2 0 0))
    (fun t => t.resolved.word == 0x21 && t.bitLen == 74) = true := by decide +kernel
/-- V-B15. -/
theorem test_select_ineligible : answers (exec .select (withText hello 3 0 1))
    (fun t => t.statusWord == 0x504 && t.resolved.word == 0) = true := by decide +kernel
/-- PACK of a text at version 1 and level M. -/
def packed (t : List Byte) (md : BitVec 2) (codewords : List Byte) : Bool :=
  answers (exec .pack ((withText t 1 0 0).setResolved ⟨1, md, 0⟩)) fun t =>
    t.readBytes 0x1400 16 == codewords
/-- V-B8 "AC-42", V-B2 "01234567", V-B7 "12" and V-B5 "é". -/
theorem test_pack_modes :
    packed [0x41, 0x43, 0x2D, 0x34, 0x32] 2
      [32, 41, 206, 231, 33, 0, 236, 17, 236, 17, 236, 17, 236, 17, 236, 17] = true ∧
    packed [0x30, 0x31, 0x32, 0x33, 0x34, 0x35, 0x36, 0x37] 1
      [16, 32, 12, 86, 97, 128, 236, 17, 236, 17, 236, 17, 236, 17, 236, 17] = true ∧
    packed [0x31, 0x32] 1 [16, 8, 96, 0, 236, 17, 236, 17, 236, 17, 236, 17, 236, 17, 236, 17] = true ∧
    packed [0xC3, 0xA9] 3 [64, 44, 58, 144, 236, 17, 236, 17, 236, 17, 236, 17, 236, 17, 236, 17] = true := by
  decide +kernel
/-- V-B19. -/
theorem test_pack_unresolved :
    answers (exec .pack State.reset) (fun t => t.statusWord == 0x404) = true := by decide +kernel
/-- V-R4. -/
theorem test_rsgen_7 : answers (exec (.rsgen 7) State.reset)
    (fun t => t.readBytes 0x1920 8 == [1, 127, 122, 154, 164, 11, 68, 117]) = true := by decide +kernel
/-- V-R10. -/
theorem test_rsgen_31 :
    answers (exec (.rsgen 31) State.reset) (fun t => t.statusWord == 0x304) = true := by decide +kernel
/-- V-R11. -/
theorem test_rsenc_5_5 :
    answers (exec (.rsenc 5 5) (State.reset.writeBytes 0x1800 [1, 2, 3, 4, 5]))
      (fun t => t.readBytes 0x1900 5 == [67, 28, 162, 70, 186]) = true := by decide +kernel
/-- V-R18. -/
theorem test_rsenc_too_long :
    answers (exec (.rsenc 250 6) State.reset) (fun t => t.statusWord == 0x304) = true := by decide +kernel
/-- R186's example (V-B1 and V-R15). -/
theorem test_ecenc_hello : answers (exec .ecenc ((atVer 1 2).writeBytes 0x1400
      [32, 91, 11, 120, 209, 114, 220, 77, 67, 64, 236, 17, 236]))
    (fun t => t.readBytes 0x1600 26 ==
      [32, 91, 11, 120, 209, 114, 220, 77, 67, 64, 236, 17, 236] ++
      [168, 72, 22, 82, 217, 54, 156, 0, 46, 15, 180, 122, 16]) = true := by decide +kernel
/-- V-X1, rows 6 and 13. -/
theorem test_buildstruct_v1 : answers (exec .buildstruct (atVer 1 1))
    (fun t => t.readBytes (0x2000 + 6 * 21) 21 ==
        [1, 1, 1, 1, 1, 1, 1, 0, 1, 0, 1, 0, 1, 0, 1, 1, 1, 1, 1, 1, 1] &&
      t.readBytes (0x2000 + 13 * 21) 21 ==
        [0, 0, 0, 0, 0, 0, 0, 0, 1, 2, 2, 2, 2, 2, 2, 2, 2, 2, 2, 2, 2]) = true := by decide +kernel
/-- R214's example: the first four cells receive bits 7, 6, 5, 4 of FINALCW[0]. -/
theorem test_placedata_first_cells :
    let g := placeGrid (buildGrid 1) 21 (0xA0 :: List.replicate 25 0) 26
    g.at 20 20 = 1 ∧ g.at 20 19 = 0 ∧ g.at 19 20 = 1 ∧ g.at 19 19 = 0 := by decide +kernel
/-- V-X6: right after reset. -/
theorem test_placedata_unresolved :
    answers (exec .placedata State.reset) (fun t => t.statusWord == 0x404) = true := by decide +kernel
/-- V-M1, masks 5 and 6: on an all-Light maskable grid the predicate itself appears. -/
theorem test_applymask_predicates :
    maskGrid (filled 6 0) (filled 6 1) 5 = [[1, 1, 1, 1, 1, 1], [1, 0, 0, 0, 0, 0],
      [1, 0, 0, 1, 0, 0], [1, 0, 1, 0, 1, 0], [1, 0, 0, 1, 0, 0], [1, 0, 0, 0, 0, 0]] ∧
    maskGrid (filled 6 0) (filled 6 1) 6 = [[1, 1, 1, 1, 1, 1], [1, 1, 1, 0, 0, 0],
      [1, 1, 0, 1, 1, 0], [1, 0, 1, 0, 1, 0], [1, 0, 1, 1, 0, 1], [1, 0, 0, 0, 1, 1]] := by
  decide +kernel
/-- V-P5: the two overlapping windows both count. -/
theorem test_score_windows :
    penalty (([0, 0, 0, 0, 1, 0, 1, 1, 1, 0, 1] ++ List.replicate 10 0) ::
      List.replicate 20 (List.replicate 21 0)) 21 = ⟨782, 1176, 80, 90⟩ := by decide +kernel
/-- V-P8. -/
theorem test_score_undetermined :
    answers (exec .score structured) (fun t => t.statusWord == 0x604) = true := by decide +kernel
/-- V-S1 and V-S2: the winners of the listed totals; V-S3: a tie goes to mask 0. -/
theorem test_selectmask_winner : winner [734, 498, 628, 553, 755, 564, 432, 814] = 6 ∧
    winner [462, 760, 634, 563, 687, 714, 546, 480] = 0 ∧ winner [0, 0, 0, 0, 0, 0, 0, 0] = 0 := by
  decide +kernel
/-- V-F3. -/
theorem test_fmtbits_q6 :
    answers (exec (.fmtbits 2 6) State.reset) (fun t => t.result == 0x2EDA) = true := by decide +kernel
/-- V-F10. -/
theorem test_verbits_7 :
    answers (exec (.verbits 7) State.reset) (fun t => t.result == 0x07C94) = true := by decide +kernel
/-- V-F14. -/
theorem test_verbits_63 :
    answers (exec (.verbits 63) State.reset) (fun t => t.result == 0x3FB85) = true := by decide +kernel
/-- V-F16: the cells (0,8), (1,8), (7,8), (8,7), (8,0) and FORMAT. -/
theorem test_writefmt_q6 :
    answers (exec .writefmt ((atVer 1 2).setResolved ⟨1, 0, 6⟩))
      (fun t => t.format == 0x2EDA && t.gridCell 21 0 8 == 0 && t.gridCell 21 1 8 == 1 &&
        t.gridCell 21 7 8 == 1 && t.gridCell 21 8 7 == 0 && t.gridCell 21 8 5 == 1 &&
        t.gridCell 21 8 19 == 1 && t.gridCell 21 20 8 == 0) = true := by decide +kernel
/-- V-F17: bits 0, 2 and 4 at both blocks, and VERWORD. -/
theorem test_writever_7 : answers (exec .writever (atVer 7 1))
    (fun t => t.verWord == 0x7C94 && t.gridCell 45 0 34 == 0 && t.gridCell 45 0 36 == 1 &&
      t.gridCell 45 36 0 == 1 && t.gridCell 45 1 35 == 1 && t.gridCell 45 35 1 == 1) = true := by
  decide +kernel
/-- V-F17, versions below 7. -/
theorem test_writever_6 : answers (exec .writever (atVer 6 1))
    (fun t => t.verWord == 0 && t.mem == []) = true := by decide +kernel
/-- P2: version, mode and bit length of "HELLO WORLD" at level Q, with the mask fixed to 6. -/
theorem test_encode_hello :
    answers (exec .encode ((withText hello 2 0 0).setConfig ⟨2, 0, 6, 0, false⟩))
      (fun t => t.resolved.word == 0x621 && t.bitLen == 74 && t.format == 0x2EDA &&
        t.verWord == 0 && t.statusWord == 2) = true := by decide +kernel
/-- P4 step 9 (V-B9): 120 lowercase letters at level H. -/
theorem test_encode_capacity :
    answers (exec .encode (withText (List.replicate 120 0x61) 3 0 0))
      (fun t => t.statusWord == 0x000F0104 && t.resolved.word == 0) = true := by decide +kernel

/-! ### The host's side, from P4 and 70_reset_and_hazards.md -/

/-- P4 steps 2 to 4: a command is dropped while ERR = 1, and CLEARERR clears. -/
theorem test_dropped_command :
    (hostWrite 0x00C .word 0x01000205 (State.reset.failed (.plain .badOperand))).statusWord = 0x30C ∧
    (hostWrite 0x010 .word 6 (State.reset.failed (.plain .badOperand))).statusWord = 0 := by
  decide +kernel
/-- P4 step 7: a byte write to a register. -/
theorem test_bad_access : (hostWrite 0x004 .byte 1 State.reset).statusWord = 0x804 ∧
    (hostWrite 0x004 .byte 1 State.reset).readReg .config = 0x801 := by decide +kernel
/-- 93_implementation_defined.md, "Illegal host accesses": a write to ID and one to SCORE4, idle and BUSY. -/
theorem test_read_only_write : (hostWrite 0x000 .word 1 State.reset).statusWord = 0x804 ∧
    (hostWrite 0x06C .word 1 (hostWrite 0x00C .word 0 State.reset)).statusWord = 0x805 := by decide +kernel
/-- R301, R352: an accepted command makes the block BUSY; a second CMD write is a BUSY_WRITE. -/
theorem test_busy_write :
    (hostWrite 0x00C .word 0 State.reset).statusWord = 1 ∧
    (hostWrite 0x00C .word 0 (hostWrite 0x00C .word 0 State.reset)).statusWord = 0x705 := by
  decide +kernel
/-- R108: LOADTEXT of the two UTF-8 bytes of V-B5, a byte past the window, and V-X1's `SETRES v=1`. -/
theorem test_host_statements : loadText "é" = [wr8 0x1000 0xC3, wr8 0x1001 0xA9, wr32 0x008 2] ∧
    wr8At 0x3FFF 1 = wr8 0x3FFF 1 ∧ wr8At 0x4000 1 = .idle ∧ setRes (vr := 1) = [wr32 0x018 1] ∧
    cfg (l := 2) = [wr32 0x004 0x802] := by decide +kernel
/-- The state `withFetchWord` gives runs the command in its next step (V-G1). -/
theorem test_step_runs_word :
    answers (step (State.reset.withFetchWord 32 0x010053CA)) (fun t => t.result == 0x8F) = true := by
  decide +kernel

/-! ### Witnesses: concrete states and operands that meet the hypotheses of the statements of Obligations.lean,
clause by clause, at boundary values -/

/-- A command in flight whose latency has passed. -/
def due (w : Word) : State := State.reset.withFetchWord 32 w.toNat

/-- NOP in flight with k + 1 cycles of latency left, and the host's operations. -/
def waiting (k : Nat) (ops : List HostOp) : State :=
  (State.reset.setPhase (.busy (k + 1))).setHostOps ops

/-- After reset, with an error recorded. -/
def erred : State := State.reset.failed (.plain .badOperand)

theorem witness_DecodeOfEncodeIsTheCommand :
    (Instr.gfpow 255 65535).wellFormed = true ∧ Instr.encode.wellFormed = true := by decide

theorem witness_EncodeOfDecodeIsTheWord : ∃ i, decode 0x02FFFFFF = .ok i :=
  ⟨.gfpow 255 65535, by decide +kernel⟩

theorem witness_WordsDecodeByMaskAndMatch :
    (⟨"GFEXP", 0x03000000, 0xFFFFFE00⟩ : MapRow) ∈ opcodeMap ∧
    (0x030001FF : Word) &&& 0xFFFFFE00 = 0x03000000 := by decide

theorem witness_UnmatchedWordsAreIllegalCommands :
    (∀ row ∈ opcodeMap, (0x01010000 : Word) &&& row.mask ≠ row.matchWord) ∧
    (due 0x01010000).phase = .busy 0 ∧ (due 0x01010000).cmd = 0x01010000 ∧
    unlistedOpcode ((0x05000000 : Word).toNat / 2 ^ 24) ∧
    unlistedOpcode ((0xFF000000 : Word).toNat / 2 ^ 24) := by
  refine ⟨by decide +kernel, rfl, by decide +kernel, .inl (by decide), ?_⟩
  exact .inr (.inr (.inr (.inr (.inr (.inr (by decide))))))

theorem witness_AssemblerEmitsOnlyLegalWords :
    assemble "RSENC 255, 63".toList = some 0x2100FF3F ∧
    assembleInstr "GFEXP" ["511".toList] = some (.gfexp 511) ∧
    (⟨"ENCODE", 0x60000000, 0xFFFFFFFF⟩ : MapRow) ∈ opcodeMap ∧
    numberValue "255".toList = some 255 ∧ numberValue "256".toList = some 256 ∧
    numberValue "0xFFFF".toList = some 65535 ∧ numberValue "0".toList = some 0 ∧
    denotesLevel ['H'] 3 ∧ denotesLevel ['4'] 4 := by decide +kernel

theorem witness_StepRunsTheDecodedCommand :
    (due 0x60000000).phase = .busy 0 ∧ decode (due 0x60000000).cmd = .ok .encode ∧
    decodeTableWord 32 0x60000000 = some .encode := by decide +kernel

theorem witness_HostActsAtMostOncePerCycle :
    (State.reset.phase = .idle ∧ State.reset.hostOps = []) ∧
    ((State.reset.setHostOps [.wait]).phase = .idle ∧
      (State.reset.setHostOps [.wait]).hostOps = .wait :: []) ∧
    ((waiting 0 []).phase = .busy (0 + 1) ∧ (waiting 0 []).hostOps = []) ∧
    ((waiting 7 [.reset]).phase = .busy (7 + 1) ∧ (waiting 7 [.reset]).hostOps = .reset :: []) := by
  decide +kernel

theorem witness_EveryCommandInFlightCompletes :
    (due 0).phase = .busy 0 ∧ (waiting 7 [.wait]).phase = .busy 8 := by decide +kernel

theorem witness_CommandsCompleteOrFailPrecisely :
    ((State.reset.setConfig ⟨1, 0, 8, 0, true⟩).config.ie = true) ∧
    (CmdError.plain .badOperand).code ≠ .capacityExceeded ∧
    State.reset.status.err = false ∧ erred.status.err = true := by decide +kernel

/-- The two ends of the register writes that are legal, and of the read-only registers beside them. -/
theorem witness_LegalAccessesAreThoseOfTheMap :
    (writable 0x004 .word).isSome = true ∧ (writable 0x018 .word).isSome = true ∧
    (writable 0x1000 .byte).isSome = true ∧ (writable 0x3FFF .byte).isSome = true ∧
    (writable 0x000 .word).isSome = false ∧ (writable 0x014 .word).isSome = false ∧
    (writable 0x01C .word).isSome = false ∧ (target 0x03C .word).isSome = false := by decide +kernel

/-- The gap 0x03C, the last offset of it, both ends of the hole 0x1940..0x1FFF, and a byte access to a
register. -/
theorem witness_IllegalAccessesRecordBadAccess :
    target 0x03C .word = none ∧ target 0x070 .word = none ∧ target 0x1940 .byte = none ∧
    target 0x1FFF .byte = none ∧ target 0x000 .byte = none ∧ (target 0x1000 .word).isSome = false ∧
    writable 0x03C .word = none ∧ writable 0x000 .word = none ∧ writable 0x06C .word = none ∧
    State.reset.status.err = false ∧ erred.status.err = true := by decide +kernel

theorem witness_AccessesWhileBusy :
    (due 0).phase = .busy 0 ∧ (waiting 7 []).phase = .busy 8 ∧
    target 0x000 .word = some (.reg .id) ∧ target 0x010 .word = some (.reg .status) ∧
    target 0x06C .word = some (.reg (.score 3)) ∧ target 0x1000 .byte = some (.cell 0x1000) ∧
    target 0x3FFF .byte = some (.cell 0x3FFF) ∧ target 0x03C .word = none ∧
    target 0x018 .word = some (.reg .resolved) ∧
    Reg.resolved ∈ [Reg.config, .textLen, .cmd, .resolved] ∧
    Reg.score 3 ∉ [Reg.config, .textLen, .cmd, .status, .resolved] := by decide +kernel

theorem witness_CommandAcceptance :
    (due 0).phase = .busy 0 ∧ (erred.phase = .idle ∧ erred.status.err = true) ∧
    (State.reset.phase = .idle ∧ State.reset.status.err = false) ∧
    decode (due 0).cmd = .ok .nop ∧
    decode (due 0xFF000000).cmd = .error (.unknownOpcode 0xFF) := by decide +kernel

theorem witness_StatusWritesClearByOnes :
    (6 : Word).getLsbD 2 = true ∧ (2 : Word).getLsbD 2 = false := by decide

theorem witness_RwRegistersKeepTheirFields : State.reset.phase = .idle := rfl

theorem witness_ReadOnlyRegistersIgnoreWrites :
    State.reset.phase = .idle ∧ target 0x000 .word = some (.reg .id) ∧
    target 0x06C .word = some (.reg (.score 3)) ∧
    Reg.id ∉ [Reg.config, .textLen, .cmd, .status, .resolved] ∧
    Reg.score 3 ∉ [Reg.config, .textLen, .cmd, .status, .resolved] := by decide +kernel

theorem witness_CombinationalRegistersFollowTheTables :
    (atVer 0 1).noVersion ∧ (atVer 11 1).noVersion ∧ (atVer 15 1).noVersion ∧
    (atVer 1 3).atVersion 1 ∧ (atVer 10 0).atVersion 10 := by decide +kernel

theorem witness_BufferBytesReadBackAsWritten :
    State.reset.phase = .idle ∧ inBuffer (0x1000 : Offset).toNat = true ∧
    inBuffer (0x193F : Offset).toNat = true ∧ inBuffer (0x2000 : Offset).toNat = true ∧
    inBuffer (0x3FFF : Offset).toNat = true := by decide +kernel

theorem witness_ResetInputRestoresRegisters :
    (State.reset.setHostOps [.reset]).phase ≠ .busy 0 ∧
    (State.reset.setHostOps [.reset]).hostOps = .reset :: [] ∧
    (waiting 0 [.reset]).phase ≠ .busy 0 ∧ (waiting 0 [.reset]).hostOps = .reset :: [] := by
  decide +kernel

theorem witness_IrqFollowsEnableAndStatus :
    (6 : Word).getLsbD 1 = true ∧ (6 : Word).getLsbD 2 = true ∧ State.reset.phase = .idle ∧
    (0x801 : Word).getLsbD 16 = false := by decide +kernel

theorem witness_EveryStepKeepsTheInvariant :
    (waiting 0 []).inv ∧ ∃ t, step (waiting 0 []) = .next t := by
  refine ⟨by decide +kernel, _, rfl⟩

theorem witness_NopOnlyCompletes : (1 : Word).toNat < 2 ^ 24 ∧ (1 : Word) ≠ 0 ∧
    (0xFFFFFF : Word).toNat < 2 ^ 24 ∧ (0xFFFFFF : Word) ≠ 0 := by decide

/-- The operands 0, 1, 255 and 65535 that the clauses of the field commands name, and the ends of the ranges
of an index. -/
theorem witness_field_operands :
    ((0 : Byte) = 0 ∧ 0 < 65535) ∧ ((255 : Byte) ≠ 0 ∧ (255 = 255 ∨ 255 = 65535)) ∧
    (0 < 512 ∧ 511 < 512) ∧ (1 ≤ 254 ∧ 254 ≤ 254) ∧ (255 ≤ 255 ∧ 255 ≤ 511) ∧ (255 ≤ 511 ∧ 511 ≤ 511) ∧
    ((1 : Byte) = 1 ∧ (1 : Byte) ≠ 0) ∧ (254 ≤ 254 ∧ gfExp 254 = 142) := by decide +kernel

/-! #### Mode and version -/

theorem withText_nil (l : BitVec 2) (vr : BitVec 4) (md : BitVec 2) : (withText [] l vr md).text = [] :=
  rfl

/-- The text is byte 'A', for the forced and the automatic mode. -/
theorem withText_A (vr : BitVec 4) (md : BitVec 2) : (withText [0x41] 1 vr md).text = [0x41] := rfl

theorem not_numeric_A : ¬ numericText [0x41] := by unfold numericText; decide

theorem alnum_A : alnumText [0x41] := by unfold alnumText; decide

/-- An empty text: numeric mode is attempted and eligible, and version 1 is chosen; VREQ = 10 is chosen
too; a text of 1025 bytes is too long whatever it holds. -/
theorem witness_SelectChoosesModeAndVersion :
    10 < (withText [] 1 11 0).config.vreq.toNat ∧
    ((State.reset.setTextLen 1025).config.vreq.toNat ≤ 10 ∧ 1024 < (State.reset.setTextLen 1025).textLen.toNat) ∧
    (modeAttempted (withText [] 1 0 0).config.modeReq (withText [] 1 0 0).text .numeric ∧
      modeEligible .numeric (withText [] 1 0 0).text ∧ versionChosen 0 1 .numeric 0 1 ∧
      versionChosen 10 1 .numeric 0 10) := by
  refine ⟨by decide, by decide, .inr ⟨rfl, ?_⟩, ?_, ?_, ?_⟩
  · rw [withText_nil]; exact fun b hb => by simp at hb
  · rw [withText_nil]; exact fun b hb => by simp at hb
  · exact ⟨by decide, by decide, by unfold fitsVersion; decide, .inr ⟨rfl, fun u h₁ h₂ => by omega⟩⟩
  · exact ⟨by decide, by decide, by unfold fitsVersion; decide, .inl rfl⟩

/-- Numeric mode forced on "A" is attempted but not eligible; automatic mode attempts alphanumeric. -/
theorem witness_SelectRefusesAnIneligibleText :
    (withText [0x41] 1 0 1).config.vreq.toNat ≤ 10 ∧ (withText [0x41] 1 0 1).textLen.toNat ≤ 1024 ∧
    modeAttempted (withText [0x41] 1 0 1).config.modeReq (withText [0x41] 1 0 1).text .numeric ∧
    ¬ modeEligible .numeric (withText [0x41] 1 0 1).text ∧
    modeAttempted 0 [0x41] .alphanumeric := by
  refine ⟨by decide, by decide, .inl rfl, ?_, .inr ⟨rfl, not_numeric_A, alnum_A⟩⟩
  rw [withText_A]
  exact not_numeric_A

/-- No version fits 1024 bytes in byte mode, and VREQ = 1 does not fit 42 digits at level L. -/
theorem witness_SelectFindsNoVersion :
    (State.reset.setTextLen 1024).textLen.toNat ≤ 1024 ∧
    (∀ v, ¬ versionChosen 0 1 .byte 1024 v) ∧ ∀ v, ¬ versionChosen 1 0 .numeric 42 v := by
  refine ⟨by decide, ?_, ?_⟩
  · rintro v ⟨h₁, h₂, hf, _⟩
    unfold fitsVersion at hf
    interval_cases v <;> exact absurd hf (by decide +kernel)
  · rintro v ⟨h₁, h₂, hf, hv⟩
    unfold fitsVersion at hf
    have : v = 1 := by omega
    subst this
    exact absurd hf (by decide +kernel)

/-- PACK's clauses: no version, no mode, a text too long, an ineligible text, one that does not fit, and one
that fits. -/
theorem witness_PackStoresTheDataCodewords :
    (atVer 11 1).noVersion ∧ (atVer 1 1).resolved.mode = 0 ∧
    ((atVer 1 1).setResolved ⟨1, 1, 0⟩).atVersion 1 ∧
    ((atVer 1 1).setResolved ⟨1, 1, 0⟩).resolved.mode = Mode.numeric.code ∧
    1024 < ((atVer 1 1).setTextLen 1025).textLen.toNat ∧
    ¬ modeEligible .numeric (withText [0x41] 1 0 0).text ∧
    ¬ fitsVersion 0 .numeric 42 1 ∧ fitsVersion 0 .numeric 41 1 ∧ fitsVersion 1 .numeric 0 1 := by
  refine ⟨by decide, rfl, by decide, rfl, by decide, ?_, ?_, ?_, ?_⟩
  · rw [withText_A]; exact not_numeric_A
  all_goals unfold fitsVersion; decide +kernel

/-- A text of 17 digits exactly fits version 1 at level H, and 274 codewords hold 271 bytes. -/
theorem witness_DataCodewordsFillTheCapacity :
    fitsVersion 3 .numeric (List.replicate 17 (0x30 : Byte)).length 1 ∧
    fitsVersion 0 .byte (List.replicate 271 (0x61 : Byte)).length 10 := by
  rw [List.length_replicate, List.length_replicate]
  unfold fitsVersion
  decide +kernel

/-- The clauses on an eligible text: a single digit, and a single character, at version 1: they fit and show what
R156, R157 and R158 put. -/
theorem witness_DataCodewordsShowTheText :
    modeEligible .numeric [0x31] ∧ fitsVersion 1 .numeric [(0x31 : Byte)].length 1 ∧
    putAt (dataCw [0x31] .numeric 1 1) 14 1 4 ∧
    modeEligible .alphanumeric [0x3A] ∧ fitsVersion 1 .alphanumeric [(0x3A : Byte)].length 1 ∧
    putAt (dataCw [0x3A] .alphanumeric 1 1) 0 2 4 ∧ putAt (dataCw [0x3A] .alphanumeric 1 1) 4 1 9 ∧
    putAt (dataCw [0x3A] .alphanumeric 1 1) 13 44 6 := by
  refine ⟨by unfold modeEligible numericText; decide, ?_, ?_, by unfold modeEligible alnumText; decide, ?_, ?_, ?_, ?_⟩
  all_goals (try unfold fitsVersion); decide +kernel

theorem witness_CharacterCountFitsItsField :
    fits 0 .numeric 652 10 = true ∧ fits 0 .numeric 653 10 = false ∧
    fits 3 .byte 7 1 = true ∧ fits 3 .byte 8 1 = false := by decide +kernel

/-! #### Reed-Solomon -/

theorem witness_RsgenStoresTheGenerator :
    (0 = 0 ∨ 30 < 0) ∧ (31 = 0 ∨ 30 < 31) ∧ (1 ≤ 1 ∧ 1 ≤ 30) ∧ (1 ≤ 30 ∧ 30 ≤ 30) := by decide

/-- LEN + EC = 255 is accepted and 256 is not; an all-zero block. -/
theorem witness_RsencStoresTheParity :
    (30 = 0 ∨ 30 < 30 ∨ 255 < 226 + 30) ∧ (1 ≤ 30 ∧ 30 ≤ 30 ∧ 225 + 30 ≤ 255) ∧
    ∀ k, k < 3 → (State.reset.writeBytes 0x1800 [0, 0, 0]).readByte (0x1800 + k) = 0 := by
  decide +kernel

theorem witness_RsencMakesACodeword :
    1 ≤ 30 ∧ 30 ≤ 30 ∧ 225 + 30 ≤ 255 ∧ ∃ t, exec (.rsenc 225 30) State.reset = .next t := by
  refine ⟨by decide, by decide, by decide, _, rfl⟩

/-- Version 5 at level Q has two groups of two blocks; version 1 has one block. -/
theorem witness_EcencInterleavesBlocksAndParity :
    (atVer 0 1).noVersion ∧ (atVer 5 2).atVersion 5 ∧ (atVer 1 1).atVersion 1 ∧
    (3 < nblocks 5 2 ∧ 14 < (firstGroup 5 2).2) ∧ ((firstGroup 5 2).1 ≤ 2 ∧ 2 < nblocks 5 2) ∧
    (3 < nblocks 5 2 ∧ 17 < ecpb 5 2) := by decide +kernel

/-! #### Matrix and masks -/

theorem witness_FirstStructuralWriteWins :
    0 < 21 ∧ 20 < 21 ∧ ∀ u ∈ ([⟨0, 20, dark⟩, ⟨0, 20, light⟩, ⟨-1, 3, light⟩] : List SetU), u.x ≠ undet := by
  decide

/-- The ends of the version range, of a finder, of the timing pattern at version 1, of the alignment centres
and the version blocks, and of the pairs of the path. -/
theorem witness_versions :
    (1 ≤ 1 ∧ 1 ≤ 10) ∧ (1 ≤ 10 ∧ 10 ≤ 10) ∧ (0 < 7 ∧ 6 < 7) ∧
    (8 ≤ 8 ∧ 8 ≤ gridSide 1 - 9) ∧ (8 ≤ 12 ∧ 12 ≤ gridSide 1 - 9) ∧
    (drawnCentre 2 18 18 ∧ drawnCentre 7 6 22 ∧ drawnCentre 10 50 50 ∧ 4 < 5) ∧
    (7 ≤ 7 ∧ 5 < 6 ∧ 2 < 3) ∧ (9 < (gridSide 1 - 1) / 2 ∧ 20 < gridSide 1) := by decide

theorem witness_BuildstructWritesTheStructure :
    (atVer 0 1).noVersion ∧ (atVer 11 1).noVersion ∧ (atVer 1 1).atVersion 1 ∧
    (atVer 10 1).atVersion 10 := by decide +kernel

theorem structured_square : (buildGrid 1).square 21 := by decide +kernel

theorem structured_cell {r c : Nat} (hr : r < 21) (hc : c < 21) :
    structured.gridCell 21 r c = (buildGrid 1).at r c :=
  State.readByte_writeGrid_inside _ .grid structured_square hr hc

/-- A grid that PLACEDATA accepts: the one of BUILDSTRUCT at version 1. -/
theorem witness_PlacedataPlacesTheStream :
    structured.atVersion 1 ∧
    (∀ r c, r < 21 → c < 21 → (structured.gridCell 21 r c).toNat ≤ 2) ∧
    (∀ r, r < 21 → structured.gridCell 21 r 6 ≠ 2) ∧
    (structured.readGrid .grid 21).countCells 2 = 8 * ntotal 1 1 + remCells 1 := by
  refine ⟨by decide +kernel, fun r c hr hc => ?_, fun r hr => ?_, ?_⟩
  · rw [structured_cell hr hc]
    have h : ∀ r < 21, ∀ c < 21, ((buildGrid 1).at r c).toNat ≤ 2 := by decide +kernel
    exact h r hr c hc
  · rw [structured_cell hr (by decide)]
    have h : ∀ r < 21, (buildGrid 1).at r 6 ≠ 2 := by decide +kernel
    exact h r hr
  · rw [structured, State.readGrid_writeGrid_eq _ .grid structured_square]
    decide +kernel

/-- The first cell PLACEDATA places in that grid. -/
theorem witness_PlacedataFirstCell :
    ((path 21).filter fun q => decide (structured.gridCell 21 q.1 q.2 = 2))[0]? = some (20, 20) := by
  decide +kernel

/-- Grids that PLACEDATA refuses: a cell of 3, and an UNDET cell in column 6. -/
theorem witness_PlacedataRefusals :
    (∃ r c, r < 21 ∧ c < 21 ∧ 2 < ((flat 3 0).gridCell 21 r c).toNat) ∧
    ∃ r, r < 21 ∧ (flat 2 0).gridCell 21 r 6 = 2 :=
  ⟨⟨20, 20, by decide, by decide, by rw [flat_grid _ _ (by decide) (by decide)]; decide⟩,
    0, by decide, flat_grid _ _ (by decide) (by decide)⟩

/-- All cells Light and maskable: what APPLYMASK, SCORE and SELECTMASK accept. -/
theorem witness_mask_commands_accept :
    (flat 0 1).atVersion 1 ∧
    (∀ r c, r < 21 → c < 21 → (flat 0 1).mapCell 21 r c ≠ 0 → ((flat 0 1).gridCell 21 r c).toNat ≤ 1) ∧
    (∀ r c, r < 21 → c < 21 → ((flat 1 0).gridCell 21 r c).toNat ≤ 1) ∧ (0 : BitVec 3).toNat < 1 := by
  refine ⟨by decide +kernel, fun r c hr hc _ => ?_, fun r c hr hc => ?_, by decide⟩ <;>
    (rw [flat_grid _ _ hr hc]; decide)

/-- A maskable UNDET cell: what APPLYMASK, SCORE and SELECTMASK refuse. -/
theorem witness_mask_commands_refuse :
    (flat 2 1).atVersion 1 ∧ ∃ r c, r < 21 ∧ c < 21 ∧ (flat 2 1).mapCell 21 r c ≠ 0 ∧
      1 < ((flat 2 1).gridCell 21 r c).toNat := by
  refine ⟨by decide +kernel, 20, 20, by decide, by decide, ?_, ?_⟩
  · rw [flat_map _ _ (by decide) (by decide)]; decide
  · rw [flat_grid _ _ (by decide) (by decide)]; decide

/-! #### Metadata and the pipeline -/

/-- Versions at both sides of the version-information boundary, and the last bit of both words. -/
theorem witness_metadata_commands :
    (atVer 0 1).noVersion ∧ (atVer 1 1).atVersion 1 ∧ ((atVer 6 1).atVersion 6 ∧ 6 ≤ 6) ∧
    ((atVer 7 1).atVersion 7 ∧ 7 ≤ 7) ∧ (atVer 10 3).atVersion 10 ∧ 14 < 15 ∧ 17 < 18 ∧ 63 < 64 ∧
    (7 ≤ 10 ∧ 10 ≤ 10) ∧ 0 = 0 ∧ 1 = 1 ∧ 6 = 6 ∧ 63 = 63 := by
  decide +kernel

/-- ENCODE's first two checks and the boundary of the mask request. The other clauses have the states of
SELECT's witnesses. -/
theorem witness_EncodeChecksThenCommits :
    (10 < (withText [] 1 11 0).config.vreq.toNat ∨ 8 < (withText [] 1 11 0).config.mreq.toNat) ∧
    8 < ((withText [] 1 0 0).setConfig ⟨1, 0, 9, 0, false⟩).config.mreq.toNat ∧
    ((withText [] 1 10 0).config.vreq.toNat ≤ 10 ∧ (withText [] 1 10 0).config.mreq.toNat ≤ 8) ∧
    ((withText [] 1 0 0).setConfig ⟨1, 0, 7, 0, false⟩).config.mreq.toNat ≤ 7 ∧
    (withText [] 1 0 0).config.mreq.toNat = 8 ∧
    (∀ i, i < 15 → (20, 20) ≠ faCell i ∧ (20, 20) ≠ fbCell (gridSide 1) i) ∧
    ∀ i, i < 18 → (20, 20) ≠ versionCellRight (gridSide 7) i ∧ (20, 20) ≠ versionCellLeft (gridSide 7) i := by
  decide +kernel

/-- ENCODE succeeds on the empty text right after reset, with the mask searched and with it fixed to 7, and on
a state whose other registers and buffers differ. -/
theorem witness_EncodeEqualsItsStages :
    State.reset.status.err = false ∧ State.reset.config.mreq.toNat = 8 ∧
    (∃ t, exec .encode State.reset = .next t ∧ (!t.status.err) = true) ∧
    (State.reset.setConfig ⟨1, 0, 7, 0, false⟩).config.mreq.toNat ≤ 7 ∧
    ∃ t, exec .encode (State.reset.setConfig ⟨1, 0, 7, 0, false⟩) = .next t ∧
      (!t.status.err) = true := by
  refine ⟨rfl, rfl, exists_of_answers ?_, by decide, exists_of_answers ?_⟩ <;> decide +kernel

theorem witness_EncodeDependsOnTextAndConfigOnly :
    State.reset.config = (State.reset.setResult 5).config ∧
    State.reset.textLen = (State.reset.setResult 5).textLen ∧
    State.reset.text = (State.reset.setResult 5).text ∧ (State.reset.setResult 5).status.err = false :=
  ⟨rfl, rfl, rfl, rfl⟩

theorem witness_EncodeLeavesNoUndeterminedCell :
    ∃ t, exec .encode State.reset = .next t ∧ (!t.status.err && decide (20 < t.sizeReg)) = true :=
  exists_of_answers (by decide +kernel)

end Sys2Proof.Tests
end

section
/-! PROOFS. The buffers' memory: which stores keep it canonical and inside the buffers of 20_memory.md R70.
This is the memory's half of the invariant. -/

namespace Sys2Proof.Machine

/-- The memory is canonical and holds buffer bytes only (R70, R77). -/
structure Memory.confined (m : Memory) : Prop where
  wf : m.wf
  inBuffers : m.inBuffers

/-- Every byte of a buffer's range is a buffer byte. -/
theorem inBuffer_of_buf (b : Buf) {a : Nat} (hlo : b.base ≤ a) (hhi : a < b.base + b.size) :
    inBuffer a = true := by
  have hb : b ∈ Buf.all := by cases b <;> decide
  rw [inBuffer, bufAt, List.find?_isSome]
  exact ⟨b, hb, by simp [Buf.holds, hlo, hhi]⟩

/-- A store of buffer bytes keeps the memory confined. -/
theorem Memory.confined.write {m : Memory} (h : m.confined) {base : Nat} {bs : List Byte}
    (hb : ∀ a, base ≤ a → a < base + bs.length → inBuffer a = true) :
    (m.write base bs).confined := by
  refine ⟨Memory.write_wf h.wf base bs, fun c hc => ?_⟩
  rcases Memory.mem_write hc with hold | ⟨hlo, hhi⟩
  · exact h.inBuffers c hold
  · exact hb c.1 hlo hhi

/-- A run from a buffer's first byte on that is no longer than the buffer keeps the memory confined. -/
theorem Memory.confined.write_buf {m : Memory} (h : m.confined) (b : Buf) {bs : List Byte}
    (hl : bs.length ≤ b.size) : (m.write b.base bs).confined :=
  h.write fun _ hlo hhi => inBuffer_of_buf b hlo (by omega)

/-- Single-cell stores of buffer bytes keep the memory confined. -/
theorem State.confined_writeCells {s : State} (h : s.mem.confined) {cells : List (Nat × Byte)}
    (hc : ∀ c ∈ cells, inBuffer c.1 = true) : (s.writeCells cells).mem.confined := by
  induction cells generalizing s with
  | nil => exact h
  | cons c cs ih =>
    refine ih (s := s.writeBytes c.1 [c.2]) (h.write fun a hlo hhi => ?_)
      fun d hd => hc d (List.mem_cons_of_mem _ hd)
    have ha : a = c.1 := by simp at hhi; omega
    exact ha ▸ hc c List.mem_cons_self

/-! ### Grids -/

/-- The grid of a supported version is no larger than the buffers GRID and MASKMAP (R46, R47). -/
theorem gridSide_sq_le {v : Nat} (hv : v ≤ 10) : gridSide v * gridSide v ≤ 4096 := by
  have h : gridSide v ≤ 57 := by unfold gridSide; omega
  exact (Nat.mul_le_mul h h).trans (by decide)

/-- Storing a whole grid of a supported version keeps the memory confined. -/
theorem Memory.confined.write_grid {m : Memory} (h : m.confined) {b : Buf} (hb : b.size = 4096)
    {g : Grid} {v : Nat} (hv : v ≤ 10) (hg : g.square (gridSide v)) :
    (m.write b.base g.flatten).confined :=
  h.write_buf b (by rw [Grid.square_flatten_length hg, hb]; exact gridSide_sq_le hv)

theorem Grid.square_filled (n : Nat) (x : Byte) : (filled n x).square n := by
  refine ⟨by simp [filled], fun row hr => ?_⟩
  rw [List.eq_of_mem_replicate hr, List.length_replicate]

/-- Changing one row to another of its length keeps a grid square. -/
theorem Grid.square_modify {g : Grid} {n : Nat} (h : g.square n) (r : Nat) {f : List Byte → List Byte}
    (hf : ∀ row, (f row).length = row.length) : Grid.square (g.modify r f) n := by
  refine ⟨by simp [h.1], fun row hr => ?_⟩
  obtain ⟨i, hi, rfl⟩ := List.getElem_of_mem hr
  rw [List.length_modify] at hi
  have hrow := h.2 g[i] (List.getElem_mem hi)
  rw [List.getElem_modify]
  split
  · rw [hf, hrow]
  · exact hrow

theorem Grid.square_put {g : Grid} {n : Nat} (h : g.square n) (r c : Nat) (x : Byte) :
    (g.put r c x).square n :=
  Grid.square_modify h r fun _ => List.length_set

theorem Grid.square_setU {g : Grid} {n : Nat} (h : g.square n) (k : Nat) (u : SetU) :
    Grid.square (setU k g u) n := by
  unfold setU
  split
  · exact Grid.square_modify h _ fun _ => List.length_modify _ _ _
  · exact h

/-- A list of cell updates keeps a grid square when each update does. -/
theorem Grid.square_foldl {α : Type} {n : Nat} {f : Grid → α → Grid}
    (hf : ∀ g x, Grid.square g n → Grid.square (f g x) n) (l : List α) {g : Grid} (h : g.square n) :
    Grid.square (l.foldl f g) n := by
  induction l generalizing g with
  | nil => exact h
  | cons x xs ih => exact ih (hf g x h)

theorem buildGrid_square (v : Nat) : Grid.square (buildGrid v) (gridSide v) :=
  Grid.square_foldl (fun _ u hg => Grid.square_setU hg _ u) _ (Grid.square_filled _ _)

theorem placeGrid_square {g : Grid} {n : Nat} (h : g.square n) (fcw : List Byte) (total : Nat) :
    Grid.square (placeGrid g n fcw total) n :=
  Grid.square_foldl (fun _ _ hg => Grid.square_put hg _ _ _) _ h

theorem placeMap_square (g : Grid) (n : Nat) : Grid.square (placeMap g n) n :=
  Grid.square_foldl (fun _ _ hg => Grid.square_put hg _ _ _) _ (Grid.square_filled n 0)

theorem putBits_square {g : Grid} {n : Nat} (h : g.square n) (cells : List ((Nat × Nat) × Nat))
    (w : Nat) : Grid.square (putBits g cells w) n :=
  Grid.square_foldl (fun _ _ hg => Grid.square_put hg _ _ _) _ h

theorem maskGrid_square {g mk : Grid} {n : Nat} (hg : g.square n) (hmk : mk.square n) (m : BitVec 3) :
    Grid.square (maskGrid g mk m) n := by
  refine ⟨by simp [maskGrid, hg.1, hmk.1], fun row hr => ?_⟩
  obtain ⟨i, hi, rfl⟩ := List.getElem_of_mem hr
  simp only [maskGrid, List.length_map, List.length_zipIdx, List.length_zip] at hi
  have h₁ := hg.2 _ (List.getElem_mem (show i < g.length by omega))
  have h₂ := hmk.2 _ (List.getElem_mem (show i < mk.length by omega))
  simp [maskGrid, h₁, h₂]

theorem finishGrid_square {g mk : Grid} {v : Nat} (hg : g.square (gridSide v))
    (hmk : mk.square (gridSide v)) (l : BitVec 2) (m : BitVec 3) :
    Grid.square (finishGrid g mk v l m) (gridSide v) :=
  putBits_square (putBits_square (maskGrid_square hg hmk m) _ _) _ _

theorem encodeGrid_square (t : List Byte) (md : Mode) (v : Nat) (l : BitVec 2) :
    Grid.square (encodeGrid t md v l) (gridSide v) :=
  placeGrid_square (buildGrid_square v) _ _

theorem encodeMap_square (v : Nat) : Grid.square (encodeMap v) (gridSide v) := placeMap_square _ _

/-! ### Metadata cells (43_matrix.md R206, R208) -/

theorem formatCells_inside {n : Nat} (hn : 15 ≤ n) {p : (Nat × Nat) × Nat} (hp : p ∈ formatCells n) :
    p.1.1 < n ∧ p.1.2 < n := by
  simp only [formatCells, List.mem_append, List.mem_map, List.mem_range] at hp
  rcases hp with ⟨i, hi, rfl⟩ | ⟨i, hi, rfl⟩
  · unfold fa; split_ifs <;> simp only <;> omega
  · unfold fb; split_ifs <;> simp only <;> omega

theorem versionCells_inside {n : Nat} (hn : 11 ≤ n) {p : (Nat × Nat) × Nat} (hp : p ∈ versionCells n) :
    p.1.1 < n ∧ p.1.2 < n := by
  simp only [versionCells, List.mem_append, List.mem_map, List.mem_range] at hp
  rcases hp with ⟨i, hi, rfl⟩ | ⟨i, hi, rfl⟩
  · simp only [vtr]; omega
  · simp only [vbl]; omega

theorem versionCellsOf_inside {v : Nat} {p : (Nat × Nat) × Nat} (hp : p ∈ versionCellsOf v) :
    p.1.1 < gridSide v ∧ p.1.2 < gridSide v := by
  unfold versionCellsOf at hp
  split at hp
  · exact versionCells_inside (by unfold gridSide; omega) hp
  · simp at hp

/-- Writing a word's bits into cells of the grid keeps the memory confined. -/
theorem State.confined_bitWrites {s : State} (h : s.mem.confined) {v : Nat} (hv : v ≤ 10)
    {cells : List ((Nat × Nat) × Nat)}
    (hc : ∀ p ∈ cells, p.1.1 < gridSide v ∧ p.1.2 < gridSide v) (w : Nat) :
    (s.writeCells (bitWrites (gridSide v) cells w)).mem.confined := by
  refine State.confined_writeCells h fun c hmem => ?_
  obtain ⟨p, hp, rfl⟩ := List.mem_map.1 hmem
  have hlt := cell_index_lt (hc p hp).1 (hc p hp).2
  have hsq := gridSide_sq_le hv
  exact inBuffer_of_buf .grid (Nat.le_add_right _ _) (Nat.add_lt_add_left (by exact hlt.trans_le hsq) _)

end Sys2Proof.Machine
end

section
/-! PROOFS. The lengths of what the stages store: data codewords (41_bitstream.md R160), generator, parity
and interleaved codewords (42_reed_solomon.md R180, R181, R183). -/

namespace Sys2Proof.Machine

/-! ### The bit-stream -/

@[simp] theorem put_length (x w : Nat) : (put x w).length = w := by simp [put]

theorem numericPayload_length (t : List Byte) :
    (numericPayload t).length = payloadBits .numeric t.length := by
  induction t using numericPayload.induct with
  | case1 a b c rest ih =>
    have hdiv : (rest.length + 1 + 1 + 1) / 3 = rest.length / 3 + 1 := by omega
    have hmod : (rest.length + 1 + 1 + 1) % 3 = rest.length % 3 := by omega
    simp only [numericPayload, List.length_append, put_length, ih, payloadBits, List.length_cons,
      hdiv, hmod]
    omega
  | case2 a b => simp [numericPayload, payloadBits]
  | case3 a => simp [numericPayload, payloadBits]
  | case4 => rfl

theorem alnumPayload_length (t : List Byte) :
    (alnumPayload t).length = payloadBits .alphanumeric t.length := by
  induction t using alnumPayload.induct with
  | case1 a b rest ih =>
    simp only [alnumPayload, List.length_append, put_length, ih, payloadBits, List.length_cons]
    omega
  | case2 a => simp [alnumPayload, payloadBits]
  | case3 => rfl

theorem bytePayload_length (t : List Byte) : (bytePayload t).length = payloadBits .byte t.length := by
  induction t with
  | nil => rfl
  | cons b bs ih =>
    simp only [bytePayload, payloadBits] at ih
    simp only [bytePayload, List.flatMap_cons, List.length_append, put_length, ih, payloadBits,
      List.length_cons]
    omega

/-- A payload has the length of R152. -/
theorem payload_length (md : Mode) (t : List Byte) :
    (payload md t).length = payloadBits md t.length := by
  cases md with
  | numeric => exact numericPayload_length t
  | alphanumeric => exact alnumPayload_length t
  | byte => exact bytePayload_length t

/-- Header and payload have the length L of R152. -/
theorem streamOf_length (v : Nat) (md : Mode) (t : List Byte) :
    (streamOf v md t).length = streamBits v md t.length := by
  simp [streamOf, headerBits, payload_length, streamBits, Nat.add_assoc]

/-- A stream that fits the capacity still does once terminated and filled to whole bytes. -/
theorem alignBits_withTerminator_length_le {bits : List Bool} {n : Nat} (h : bits.length ≤ 8 * n) :
    (alignBits (withTerminator (8 * n) bits)).length ≤ 8 * n := by
  simp only [alignBits, withTerminator, List.length_append, List.length_replicate]
  omega

/-- The data codewords of a text that fits are NDATA bytes (R160). -/
theorem dataCw_length {t : List Byte} {md : Mode} {v : Nat} {l : BitVec 2}
    (h : fits l md t.length v = true) : (dataCw t md v l).length = ndata v l := by
  have hfit : (streamOf v md t).length ≤ 8 * ndata v l := by
    rw [streamOf_length]; simpa [fits] using h
  have := alignBits_withTerminator_length_le hfit
  simp only [dataCw, cutBytes, padBytes, List.length_append, List.length_map, List.length_range]
  omega

/-! ### Reed-Solomon -/

theorem genStep_length (gen : List Byte) (r : Byte) : (genStep gen r).length = gen.length + 1 := by
  simp [genStep]

/-- The generator of degree ec has ec + 1 coefficients (R180). -/
theorem generator_length (ec : Nat) : (generator ec).length = ec + 1 := by
  have h : ∀ (l : List Nat) (g : List Byte),
      (l.foldl (fun gen i => genStep gen (gfExp i)) g).length = g.length + l.length := by
    intro l
    induction l with
    | nil => simp
    | cons i l ih => intro g; rw [List.foldl_cons, ih, genStep_length, List.length_cons]; omega
  rw [generator, h, List.length_range, List.length_singleton, Nat.add_comm]

theorem parityStep_length {ec : Nat} {rem : List Byte} (h : rem.length = ec) (d : Byte) :
    (parityStep (generator ec) rem d).length = ec := by
  simp [parityStep, generator_length, h]
  omega

/-- A block has ec parity codewords (R181). -/
theorem parity_length (ec : Nat) (block : List Byte) : (parity ec block).length = ec := by
  have h : ∀ (block rem : List Byte), rem.length = ec →
      (block.foldl (parityStep (generator ec)) rem).length = ec := by
    intro block
    induction block with
    | nil => exact fun _ h => h
    | cons d ds ih => exact fun rem h => ih _ (parityStep_length h d)
  exact h block _ (by simp)

@[simp] theorem splitBlocks_length (lens : List Nat) (d : List Byte) :
    (splitBlocks lens d).length = lens.length := by
  induction lens generalizing d with
  | nil => rfl
  | cons k ks ih => simp [splitBlocks, ih]

/-- A round-robin pass takes at most one entry of each list in each round. -/
theorem roundRobin_length_le (rounds : Nat) (lists : List (List Byte)) :
    (roundRobin rounds lists).length ≤ rounds * lists.length := by
  induction rounds with
  | zero => simp [roundRobin]
  | succ k ih =>
    have hcol : (column lists k).length ≤ lists.length := List.length_filterMap_le _ _
    simp only [roundRobin, List.range_succ, List.flatMap_append, List.length_append,
      List.flatMap_singleton] at ih ⊢
    rw [Nat.succ_mul]
    omega

/-- The block structures of R54 leave room in FINALCW. -/
theorem blocks_le_finalCw : ∀ v < 11, ∀ l : BitVec 2,
    (blockLengths (vt v l).groups).foldl max 0 * (blockLengths (vt v l).groups).length +
      ecpb v l * (blockLengths (vt v l).groups).length ≤ 512 := by
  decide +kernel

/-- The interleaved codewords of a supported version fit FINALCW (R183, R42). -/
theorem finalCw_length_le (d : List Byte) {v : Nat} (hv : v ≤ 10) (l : BitVec 2) :
    (finalCw d v l).length ≤ 512 := by
  have hdata := roundRobin_length_le ((blockLengths (vt v l).groups).foldl max 0)
    (splitBlocks (blockLengths (vt v l).groups) d)
  have hpar := roundRobin_length_le (ecpb v l)
    ((splitBlocks (blockLengths (vt v l).groups) d).map (parity (ecpb v l)))
  have hsum := blocks_le_finalCw v (by omega) l
  rw [List.length_map, splitBlocks_length] at hpar
  rw [splitBlocks_length] at hdata
  rw [finalCw, List.length_append]
  omega

/-- The data codewords of R55 leave room in DATACW. -/
theorem ndata_le : ∀ v < 11, ∀ l : BitVec 2, ndata v l ≤ 512 := by decide +kernel

end Sys2Proof.Machine
end

section
/-! PROOFS. What SELECT, PACK and ENCODE check (41_bitstream.md R150 to R155, R162): the model's checks are
the conditions of Safety.lean, and each check's outcome is said once. -/

namespace Sys2Proof.Machine

/-! ### Version choice and the order of the checks -/

/-- The version chosen (R155): the least of 1..10 that fits when VREQ = 0, else VREQ itself when it fits. -/
theorem chooseVersion_eq_some {vreq : Nat} (hreq : vreq ≤ 10) {l : BitVec 2} {md : Mode} {len v : Nat} :
    chooseVersion vreq l md len = some v ↔
      1 ≤ v ∧ v ≤ 10 ∧ fits l md len v = true ∧
        (vreq = v ∨ (vreq = 0 ∧ ∀ u, 1 ≤ u → u < v → fits l md len u = false)) := by
  unfold chooseVersion
  by_cases h0 : vreq = 0
  · subst h0
    rw [if_pos rfl, versions, List.find?_map, Option.map_eq_some_iff]
    simp only [List.find?_range_eq_some, Function.comp_apply, List.mem_range, Bool.not_eq_true']
    constructor
    · rintro ⟨k, ⟨hfit, hk, hleast⟩, rfl⟩
      refine ⟨by omega, by omega, hfit, .inr ⟨trivial, fun u hu hlt => ?_⟩⟩
      have := hleast (u - 1) (by omega)
      rwa [Nat.sub_add_cancel hu] at this
    · rintro ⟨hlo, hhi, hfit, hv | ⟨-, hleast⟩⟩
      · omega
      · refine ⟨v - 1, ⟨?_, by omega, fun j hj => hleast (j + 1) (by omega) (by omega)⟩, by omega⟩
        rwa [Nat.sub_add_cancel hlo]
  · rw [if_neg h0]
    constructor
    · intro h
      split at h
      · cases h
        exact ⟨by omega, hreq, ‹_›, .inl rfl⟩
      · cases h
    · rintro ⟨-, -, hfit, rfl | ⟨hz, -⟩⟩
      · rw [if_pos hfit]
      · exact absurd hz h0

/-- The outcomes of checks 2 to 4 of R153, in their order. -/
theorem State.chooseModeVersion_cases (s : State) :
    (1024 < s.len ∧ s.chooseModeVersion = .error (.capacity s.config.modeReq s.level)) ∨
    ∃ md, md = requestedMode s.config.modeReq s.text ∧ s.len ≤ 1024 ∧
      ((eligible md s.text = false ∧ s.chooseModeVersion = .error (.plain .modeIneligible)) ∨
       (eligible md s.text = true ∧ chooseVersion s.config.vreq.toNat s.level md s.len = none ∧
          s.chooseModeVersion = .error (.capacity md.code s.level)) ∨
       ∃ v, eligible md s.text = true ∧
          chooseVersion s.config.vreq.toNat s.level md s.len = some v ∧
          s.chooseModeVersion = .ok (md, v)) := by
  unfold State.chooseModeVersion Config.textCapacity
  by_cases hlen : 1024 < s.len
  · exact .inl ⟨hlen, if_pos hlen⟩
  · refine .inr ⟨_, rfl, by omega, ?_⟩
    rw [if_neg hlen]
    dsimp only
    cases he : eligible (requestedMode s.config.modeReq s.text) s.text with
    | false => simp
    | true =>
      cases hv : chooseVersion s.config.vreq.toNat s.level
        (requestedMode s.config.modeReq s.text) s.len <;> simp

/-- The mode and version settled: the text has a supported version that it fits. -/
theorem State.chooseModeVersion_ok {s : State} {md : Mode} {v : Nat} (hreq : s.config.vreq.toNat ≤ 10)
    (h : s.chooseModeVersion = .ok (md, v)) : v ≤ 10 ∧ fits s.level md s.len v = true := by
  rcases s.chooseModeVersion_cases with ⟨-, he⟩ | ⟨md', -, -, ⟨-, he⟩ | ⟨-, -, he⟩ | ⟨v', -, hv, he⟩⟩
  · simp [he] at h
  · simp [he] at h
  · simp [he] at h
  · rw [he] at h
    cases h
    obtain ⟨-, hhi, hfit, -⟩ := (chooseVersion_eq_some hreq).1 hv
    exact ⟨hhi, hfit⟩

@[simp] theorem State.text_length (s : State) : s.text.length = s.len := s.readBytes_length _ _

/-- PACK's checks in their order (R162): the first that fails, or none. -/
theorem State.packChecks_cases (s : State) (v : Nat) (md : Mode) :
    (1024 < s.len ∧ s.packChecks v md = some (.capacity md.code s.level)) ∨
    (s.len ≤ 1024 ∧ eligible md s.text = false ∧ s.packChecks v md = some (.plain .modeIneligible)) ∨
    (s.len ≤ 1024 ∧ eligible md s.text = true ∧ fits s.level md s.len v = false ∧
      s.packChecks v md = some (.capacity md.code s.level)) ∨
    (s.len ≤ 1024 ∧ eligible md s.text = true ∧ fits s.level md s.len v = true ∧
      s.packChecks v md = none) := by
  unfold State.packChecks Config.textCapacity
  by_cases hlen : 1024 < s.len
  · exact .inl ⟨hlen, if_pos hlen⟩
  · rw [if_neg hlen]
    cases eligible md s.text <;> cases fits s.level md s.len v <;> simp [Nat.le_of_not_lt hlen]

end Sys2Proof.Machine
end

section
/-! PROOFS. How a command can end (60_exceptions.md R302, R303): it raises an error that R303 allows, or it
completes from a state with STATUS as before and the memory still confined. -/

namespace Sys2Proof.Machine

/-- "For every error but CAPACITY_EXCEEDED, mode and ecl are 0" (R303). -/
def CmdError.sound (e : CmdError) : Prop := e.code ≠ .capacityExceeded → e.mode = 0 ∧ e.ecl = 0

theorem CmdError.sound_plain (c : ErrCode) : (CmdError.plain c).sound := fun _ => ⟨rfl, rfl⟩

theorem CmdError.sound_capacity (md l : BitVec 2) : (CmdError.capacity md l).sound := fun h => absurd rfl h

/-- `o` is an end of a command run from `s`: an error entry, or a completion of writes that leave STATUS as
it is and keep the memory confined. -/
def CommandEnds (s : State) (o : Host.Outcome State Fault Refusal) : Prop :=
  (∃ e : CmdError, e.sound ∧ o = raise e s) ∨
    ∃ t : State, t.status = s.status ∧ (s.mem.confined → t.mem.confined) ∧ o = complete t

theorem CommandEnds.raise {s : State} {e : CmdError} (he : e.sound) : CommandEnds s (raise e s) :=
  .inl ⟨e, he, rfl⟩

theorem CommandEnds.complete {s t : State} (hst : t.status = s.status)
    (hm : s.mem.confined → t.mem.confined) : CommandEnds s (complete t) := .inr ⟨t, hst, hm, rfl⟩

/-- A command that writes no memory and leaves STATUS as it is. -/
theorem CommandEnds.complete_sameMem {s t : State} (hst : t.status = s.status) (hm : t.mem = s.mem) :
    CommandEnds s (Machine.complete t) := .complete hst fun h => hm ▸ h

/-- A stage command ends well when it does so on every supported version. -/
theorem CommandEnds.withVersion {s : State} {k : Nat → Host.Outcome State Fault Refusal}
    (h : ∀ v ≤ 10, CommandEnds s (k v)) : CommandEnds s (withVersion s k) := by
  rcases withVersion_eq s k with ⟨v, hv, hk⟩ | ⟨-, hk⟩
  · rw [hk]
    obtain ⟨-, -, hle⟩ := State.resolvedVersion_eq_some.1 hv
    exact h v hle
  · rw [hk]
    exact .raise (CmdError.sound_plain _)

/-- An error of checks 2 to 4 of R153 is one that R303 allows. -/
theorem State.chooseModeVersion_sound {s : State} {e : CmdError} (h : s.chooseModeVersion = .error e) :
    e.sound := by
  rcases s.chooseModeVersion_cases with ⟨-, he⟩ | ⟨md, -, -, ⟨-, he⟩ | ⟨-, -, he⟩ | ⟨v, -, -, he⟩⟩ <;>
    rw [he] at h <;> cases h
  · exact CmdError.sound_capacity _ _
  · exact CmdError.sound_plain _
  · exact CmdError.sound_capacity _ _

/-! ### Each command -/

theorem execGflog_ends (a : Byte) (s : State) : CommandEnds s (execGflog a s) := by
  unfold execGflog
  split
  · exact .raise (CmdError.sound_plain _)
  · exact .complete_sameMem rfl rfl

theorem execSelect_ends (s : State) : CommandEnds s (execSelect s) := by
  unfold execSelect
  split
  · exact .raise (CmdError.sound_plain _)
  · split
    case _ e he => exact .raise (State.chooseModeVersion_sound he)
    case _ => exact .complete_sameMem rfl rfl

theorem execPack_ends (s : State) : CommandEnds s (execPack s) := by
  refine .withVersion fun v hv => ?_
  split
  · exact .raise (CmdError.sound_plain _)
  case _ md _ =>
    rcases s.packChecks_cases v md with ⟨-, h⟩ | ⟨-, -, h⟩ | ⟨-, -, -, h⟩ | ⟨-, -, hfit, h⟩ <;>
      simp only [h]
    · exact .raise (CmdError.sound_capacity _ _)
    · exact .raise (CmdError.sound_plain _)
    · exact .raise (CmdError.sound_capacity _ _)
    · refine .complete rfl fun hm => hm.write_buf .dataCw ?_
      rw [dataCw_length (by simpa using hfit)]
      exact ndata_le v (by omega) _

/-- The parity counts RSGEN and RSENC accept (R105). -/
theorem ecOK_iff {ec : Nat} : ecOK ec = true ↔ 1 ≤ ec ∧ ec ≤ 30 := by
  rw [ecOK, Bool.and_eq_true, decide_eq_true_eq, decide_eq_true_eq, Config.maxEc]

theorem execRsgen_ends (ec : Nat) (s : State) : CommandEnds s (execRsgen ec s) := by
  unfold execRsgen
  split
  case _ hec =>
    refine .complete rfl fun hm => hm.write_buf .genBuf ?_
    rw [generator_length]
    exact Nat.succ_le_succ ((ecOK_iff.1 hec).2.trans (by decide))
  case _ => exact .raise (CmdError.sound_plain _)

theorem execRsenc_ends (len ec : Nat) (s : State) : CommandEnds s (execRsenc len ec s) := by
  unfold execRsenc
  split
  case _ hec =>
    refine .complete rfl fun hm => hm.write_buf .parBuf ?_
    rw [Bool.and_eq_true] at hec
    rw [parity_length]
    exact (ecOK_iff.1 hec.1).2.trans (by decide)
  case _ => exact .raise (CmdError.sound_plain _)

theorem execEcenc_ends (s : State) : CommandEnds s (execEcenc s) :=
  .withVersion fun _ hv => .complete rfl fun hm =>
    hm.write_buf .finalCw (finalCw_length_le _ hv _)

theorem execBuildstruct_ends (s : State) : CommandEnds s (execBuildstruct s) :=
  .withVersion fun v hv => .complete rfl fun hm =>
    (hm.write_grid (b := .grid) rfl hv (buildGrid_square v)).write_grid
      (b := .maskMap) rfl hv (Grid.square_filled _ _)

theorem execPlacedata_ends (s : State) : CommandEnds s (execPlacedata s) := by
  refine .withVersion fun v hv => ?_
  dsimp only
  split
  · exact .complete rfl fun hm =>
      (hm.write_grid (b := .grid) rfl hv
        (placeGrid_square (s.readGrid_square .grid _) _ _)).write_grid
          (b := .maskMap) rfl hv (placeMap_square _ _)
  · exact .raise (CmdError.sound_plain _)

theorem execApplymask_ends (m : BitVec 3) (s : State) : CommandEnds s (execApplymask m s) := by
  refine .withVersion fun v hv => ?_
  dsimp only
  split
  · exact .complete rfl fun hm => hm.write_grid (b := .grid) rfl hv
      (maskGrid_square (s.readGrid_square .grid _) (s.readGrid_square .maskMap _) m)
  · exact .raise (CmdError.sound_plain _)

theorem execScore_ends (s : State) : CommandEnds s (execScore s) := by
  refine .withVersion fun v hv => ?_
  dsimp only
  split
  · exact .complete_sameMem rfl rfl
  · exact .raise (CmdError.sound_plain _)

@[simp] theorem State.recordSearch_status (s : State) (g mk : Grid) (n : Nat) :
    (s.recordSearch g mk n).status = s.status := by simp [State.recordSearch]

@[simp] theorem State.recordSearch_mem (s : State) (g mk : Grid) (n : Nat) :
    (s.recordSearch g mk n).mem = s.mem := by simp [State.recordSearch]

theorem execSelectmask_ends (s : State) : CommandEnds s (execSelectmask s) := by
  refine .withVersion fun v hv => ?_
  dsimp only
  split
  · refine .complete (by simp) fun hm => ?_
    rw [State.writeGrid_mem, State.recordSearch_mem]
    exact hm.write_grid (b := .grid) rfl hv
      (maskGrid_square (s.readGrid_square .grid _) (s.readGrid_square .maskMap _) _)
  · exact .raise (CmdError.sound_plain _)

theorem execWritefmt_ends (s : State) : CommandEnds s (execWritefmt s) := by
  refine .withVersion fun v hv => .complete (by simp) fun hm => ?_
  rw [State.setFormat_mem]
  exact State.confined_bitWrites hm hv (fun _ => formatCells_inside (by unfold gridSide; omega)) _

theorem execWritever_ends (s : State) : CommandEnds s (execWritever s) := by
  refine .withVersion fun v hv => .complete (by simp) fun hm => ?_
  rw [State.setVerWord_mem]
  exact State.confined_bitWrites hm hv (fun _ => versionCellsOf_inside) _

@[simp] theorem State.encodeSelect_status (s : State) (g mk : Grid) (n : Nat) :
    (s.encodeSelect g mk n).status = s.status := by
  unfold State.encodeSelect
  split <;> simp

@[simp] theorem State.encodeSelect_mem (s : State) (g mk : Grid) (n : Nat) :
    (s.encodeSelect g mk n).mem = s.mem := by
  unfold State.encodeSelect
  split <;> simp

/-- ENCODE's writes leave STATUS as it is. -/
theorem State.encodeAs_status (s : State) (md : Mode) (v : Nat) :
    (s.encodeAs md v).status = s.status := by
  simp [State.encodeAs, State.encodeStream]

/-- ENCODE's writes of a text that fits keep the memory confined. -/
theorem State.encodeAs_confined {s : State} (hm : s.mem.confined) {md : Mode} {v : Nat} (hv : v ≤ 10)
    (hfit : fits s.level md s.len v = true) : (s.encodeAs md v).mem.confined := by
  have hd : (dataCw s.text md v s.level).length ≤ Buf.dataCw.size := by
    rw [dataCw_length (by simpa using hfit)]
    exact ndata_le v (by omega) _
  have hstream := (hm.write_buf .dataCw hd).write_buf .finalCw
    (finalCw_length_le (dataCw s.text md v s.level) hv s.level)
  simp only [State.encodeAs, State.setVerWord_mem, State.setFormat_mem, State.writeGrid_mem,
    State.encodeSelect_mem]
  exact (hstream.write_grid (b := .grid) rfl hv
    (finishGrid_square (encodeGrid_square _ _ _ _) (encodeMap_square v) _ _)).write_grid
      (b := .maskMap) rfl hv (encodeMap_square v)

theorem execEncode_ends (s : State) : CommandEnds s (execEncode s) := by
  unfold execEncode
  split
  · exact .raise (CmdError.sound_plain _)
  case _ hreq =>
    split
    case _ e he => exact .raise (State.chooseModeVersion_sound he)
    case _ md v hok =>
      obtain ⟨hv, hfit⟩ := State.chooseModeVersion_ok (by omega) hok
      exact .complete (s.encodeAs_status md v) fun hm => s.encodeAs_confined hm hv hfit

/-- Every command ends in one of the two ways. -/
theorem exec_ends (i : Instr) (s : State) : CommandEnds s (exec i s) := by
  cases i with
  | nop => exact .complete_sameMem rfl rfl
  | gfmul a b => exact .complete_sameMem rfl rfl
  | gfpow a e => exact .complete_sameMem rfl rfl
  | gfexp k => exact .complete_sameMem rfl rfl
  | gflog a => exact execGflog_ends a s
  | select => exact execSelect_ends s
  | pack => exact execPack_ends s
  | rsgen ec => exact execRsgen_ends ec s
  | rsenc len ec => exact execRsenc_ends len ec s
  | ecenc => exact execEcenc_ends s
  | buildstruct => exact execBuildstruct_ends s
  | placedata => exact execPlacedata_ends s
  | applymask m => exact execApplymask_ends m s
  | score => exact execScore_ends s
  | selectmask => exact execSelectmask_ends s
  | fmtbits l m => exact .complete_sameMem rfl rfl
  | verbits v => exact .complete_sameMem rfl rfl
  | writefmt => exact execWritefmt_ends s
  | writever => exact execWritever_ends s
  | encode => exact execEncode_ends s

/-- The engine ends the command in flight, legal or not, in one of the two ways. -/
theorem engine_ends (s : State) : CommandEnds s (engine s) := by
  cases h : decode s.cmd with
  | ok i => rw [engine_legal h]; exact exec_ends i s
  | error e => rw [engine_illegal h]; exact .raise (CmdError.sound_plain _)

end Sys2Proof.Machine
end

section
/-! PROOFS. The invariant (Safety.lean) is kept by the error entry, by each operation of the host and by a
completion, so by every step. -/

namespace Sys2Proof.Machine

/-! ### STATUS stays coherent -/

theorem ErrCode.code_range (c : ErrCode) : 1 ≤ c.code.toNat ∧ c.code.toNat ≤ 8 := by
  cases c <;> decide

/-- Recording an error that R303 allows keeps STATUS coherent. -/
theorem StatusReg.coherent_record {st : StatusReg} (h : st.coherent) {e : CmdError} (he : e.sound) :
    (st.record e).coherent := by
  obtain ⟨-, hcode, hfields⟩ := h
  cases herr : st.err with
  | true =>
    rw [StatusReg.record_later herr]
    exact ⟨fun hf => by simp [herr] at hf, hcode, hfields⟩
  | false =>
    rw [StatusReg.record_first herr]
    exact ⟨fun hf => by simp at hf, fun _ => e.code.code_range,
      fun hne => he fun hc => hne (congrArg ErrCode.code hc)⟩

/-- W1C of bit 2 clears the error fields together. -/
theorem StatusReg.w1c_of_bit2 {st : StatusReg} {v : Word} (h : v.getLsbD 2 = true) :
    st.w1c v = { st with done := st.done && !v.getLsbD 1, err := false, multi := false, errCode := 0,
                         errMode := 0, errEcl := 0 } := by
  unfold StatusReg.w1c
  rw [h]
  cases v.getLsbD 1 <;> simp [StatusReg.clearDone, StatusReg.clearErr]

/-- Without bit 2 a write reaches DONE alone. -/
theorem StatusReg.w1c_of_not_bit2 {st : StatusReg} {v : Word} (h : v.getLsbD 2 = false) :
    st.w1c v = { st with done := st.done && !v.getLsbD 1 } := by
  unfold StatusReg.w1c
  rw [h]
  cases v.getLsbD 1 <;> simp [StatusReg.clearDone]

/-- A write to STATUS keeps it coherent. -/
theorem StatusReg.coherent_w1c {st : StatusReg} (h : st.coherent) (v : Word) : (st.w1c v).coherent := by
  cases h2 : v.getLsbD 2 with
  | true =>
    rw [StatusReg.w1c_of_bit2 h2]
    exact ⟨fun _ => ⟨rfl, rfl, rfl, rfl⟩, fun hf => by simp at hf, fun _ => ⟨rfl, rfl⟩⟩
  | false =>
    rw [StatusReg.w1c_of_not_bit2 h2]
    exact h

/-- A write to STATUS clears DONE by its bit 1 and never sets it. -/
theorem StatusReg.w1c_done (st : StatusReg) (v : Word) :
    (st.w1c v).done = (st.done && !v.getLsbD 1) := by
  cases h2 : v.getLsbD 2 with
  | true => rw [StatusReg.w1c_of_bit2 h2]
  | false => rw [StatusReg.w1c_of_not_bit2 h2]

/-! ### The host's operations -/

variable {s : State}

theorem State.inv_recordError (h : s.inv) {e : CmdError} (he : e.sound) : (recordError e s).inv := by
  obtain ⟨hwf, hin, hst, hdone⟩ := h
  exact ⟨hwf, hin, StatusReg.coherent_record hst he, fun hb => by
    simpa [recordError] using hdone hb⟩

theorem State.inv_writeStatus (h : s.inv) (v : Word) : (writeStatus v s).inv := by
  obtain ⟨hwf, hin, hst, hdone⟩ := h
  exact ⟨hwf, hin, StatusReg.coherent_w1c hst v, fun hb => by
    simp [writeStatus, StatusReg.w1c_done, hdone hb]⟩

theorem State.inv_issueCommand (h : s.inv) (w : Word) : (issueCommand w s).inv := by
  obtain ⟨hwf, hin, hst, hdone⟩ := h
  rcases issueCommand_cases w s with ⟨herr, he⟩ | ⟨-, he⟩ <;> rw [he]
  · exact ⟨hwf, hin, ⟨fun hf => by simp [herr] at hf, hst.2⟩, hdone⟩
  · exact ⟨hwf, hin, hst, fun _ => rfl⟩

theorem State.inv_writeReg (h : s.inv) (r : Reg) (v : Word) : (writeReg r v s).inv := by
  cases r
  case cmd => exact State.inv_issueCommand h v
  case status => exact State.inv_writeStatus h v
  all_goals exact h

/-- A cell that an access reaches is a buffer byte (R74). -/
theorem inBuffer_of_target {off : Offset} {w : Width} {a : Nat} (h : target off w = some (.cell a)) :
    inBuffer a = true := by
  cases w with
  | word => simp [target] at h
  | byte =>
    simp only [target] at h
    split at h
    · cases h; assumption
    · cases h

theorem State.inv_hostRead (h : s.inv) (off : Offset) (w : Width) : (hostRead off w s).inv := by
  rcases hostRead_cases off w s with ⟨-, he⟩ | ⟨t, -, -, -, he⟩ | ⟨t, -, -, he⟩ <;> rw [he]
  · exact State.inv_recordError h (CmdError.sound_plain _)
  · exact h
  · exact h

theorem State.inv_hostWrite (h : s.inv) (off : Offset) (w : Width) (v : Word) :
    (hostWrite off w v s).inv := by
  rcases hostWrite_cases off w v s with ⟨-, he⟩ | ⟨t, -, -, -, he⟩ | ⟨t, ht, -, he⟩ <;> rw [he]
  · exact State.inv_recordError h (CmdError.sound_plain _)
  · exact State.inv_recordError h (CmdError.sound_plain _)
  · cases t with
    | reg r => exact State.inv_writeReg h r v
    | cell a =>
      obtain ⟨hwf, hin, hrest⟩ := h
      have ha := inBuffer_of_target (writable_eq_some.1 ht).1
      have hm : (s.mem.write a [v.setWidth 8]).confined :=
        Memory.confined.write ⟨hwf, hin⟩ fun b hlo hhi => by
          have hb : b = a := by simp at hhi; omega
          exact hb ▸ ha
      exact ⟨hm.wf, hm.inBuffers, hrest⟩

/-- The reset input leaves STATUS clear, PHASE idle and no byte stored. -/
theorem State.inv_resetInput (s : State) : (resetInput s).inv :=
  ⟨Memory.wf_nil, fun c hc => absurd hc List.not_mem_nil,
    show State.reset.status.coherent by decide,
    fun hb => by simp [resetInput, State.reset, Phase.isBusy] at hb⟩

theorem State.inv_pollWait (h : s.inv) : (pollWait s).inv := by
  unfold pollWait
  dsimp only
  split <;> exact h

theorem State.inv_perform (h : s.inv) (op : HostOp) : (perform op s).inv := by
  cases op with
  | read off w => exact State.inv_hostRead h off w
  | write off w v => exact State.inv_hostWrite h off w v
  | wait => exact State.inv_pollWait h
  | idle => exact h
  | reset => exact s.inv_resetInput

theorem State.inv_hostCycle (h : s.inv) : (hostCycle s).inv := by
  rcases hostCycle_cases s with ⟨-, he⟩ | ⟨op, rest, -, he⟩ <;> rw [he]
  · exact h
  · exact State.inv_perform (s := s.setHostOps rest) h op

/-! ### The ends of a command -/

/-- Both ends of a command lead back to IDLE with the invariant kept. -/
theorem CommandEnds.inv {o : Host.Outcome State Fault Refusal} (ho : CommandEnds s o) (h : s.inv)
    {t : State} (ht : o = .next t) : t.inv := by
  obtain ⟨hwf, hin, hst, -⟩ := h
  rcases ho with ⟨e, he, rfl⟩ | ⟨u, hu, hm, rfl⟩
  · rw [raise_next ht]
    exact ⟨hwf, hin, StatusReg.coherent_record hst he, fun hb => by simp [Phase.isBusy] at hb⟩
  · rw [complete_next ht]
    obtain ⟨hwf', hin'⟩ := hm ⟨hwf, hin⟩
    exact ⟨hwf', hin', hu ▸ hst, fun hb => by simp [Phase.isBusy] at hb⟩

end Sys2Proof.Machine
end

namespace Sys2Proof.Proofs

open Sys2Proof.Machine

/-- Settles O27: a completion that is due ends its command; in every other cycle the host acts once. -/
theorem everyStepKeepsTheInvariant : Obligations.EveryStepKeepsTheInvariant := by
  intro s t hs hstep
  cases hp : s.phase with
  | idle =>
    rw [step_idle hp] at hstep
    cases hstep
    exact State.inv_hostCycle hs
  | busy left =>
    cases left with
    | zero =>
      rw [step_due hp] at hstep
      exact (engine_ends s).inv hs hstep
    | succ k =>
      rw [step_waiting hp] at hstep
      cases hstep
      obtain ⟨hwf, hin, hst, hdone⟩ := hs
      exact State.inv_hostCycle ⟨hwf, hin, hst, fun _ => hdone (by rw [hp]; rfl)⟩

end Sys2Proof.Proofs

section
/-! PROOFS. The registers of 10_state.md §2: the fields of the words they read as, what a legal write keeps,
and the combinational registers. -/

namespace Sys2Proof.Machine

/-! ### What an access to a register does -/

/-- An exact read of a register answers its value and changes nothing else (R71, R352). -/
theorem hostRead_reg {off : Offset} {w : Width} {s : State} {r : Reg} (ht : target off w = some (.reg r))
    (h : s.phase.isBusy = false ∨ (Target.reg r).exactWhileBusy = true) :
    hostRead off w s = { s with reply := some (s.readReg r) } := by
  rcases hostRead_cases off w s with ⟨hn, -⟩ | ⟨t, ht', hb, he, -⟩ | ⟨t, ht', -, hr⟩
  · simp [ht] at hn
  · cases ht.symm.trans ht'
    simp [hb, he] at h
  · cases ht.symm.trans ht'
    exact hr

/-- A legal write to a register while PHASE = IDLE, or to STATUS, acts on the register (R72, R305). -/
theorem hostWrite_reg {off : Offset} {w : Width} {v : Word} {s : State} {r : Reg}
    (ht : writable off w = some (.reg r)) (h : s.phase.isBusy = false ∨ r = .status) :
    hostWrite off w v s = writeReg r v s := by
  rcases hostWrite_cases off w v s with ⟨hn, -⟩ | ⟨t, ht', hb, hne, -⟩ | ⟨t, ht', -, hw⟩
  · simp [ht] at hn
  · cases ht.symm.trans ht'
    rcases h with h | rfl
    · simp [hb] at h
    · exact absurd rfl hne
  · cases ht.symm.trans ht'
    exact hw

/-- A write to STATUS acts in either phase (R305, R307). -/
theorem hostWrite_status (v : Word) (s : State) : hostWrite 0x010 .word v s = writeStatus v s :=
  hostWrite_reg (r := .status) (by decide) (.inr rfl)

theorem Phase.isBusy_of_idle {p : Phase} (h : p = .idle) : p.isBusy = false := by rw [h]; rfl

theorem Phase.isBusy_iff (p : Phase) : p.isBusy = true ↔ p ≠ .idle := by
  cases p <;> simp [Phase.isBusy]

/-- A write that reaches no target of its own records a BAD_ACCESS alone (R75, log 9). -/
theorem hostWrite_illegal {off : Offset} {w : Width} (v : Word) (s : State) (h : writable off w = none) :
    hostWrite off w v s = { s with status := s.status.record (.plain .badAccess) } := by
  rcases hostWrite_cases off w v s with ⟨-, hr⟩ | ⟨t, ht, -⟩ | ⟨t, ht, -⟩
  · exact hr
  · simp [h] at ht
  · simp [h] at ht

/-! ### The words of STATUS, CONFIG and RESOLVED -/

/-- The value of two fields side by side. -/
theorem append_toNat {m n : Nat} (x : BitVec m) (y : BitVec n) :
    (x ++ y).toNat = x.toNat * 2 ^ n + y.toNat := by
  rw [BitVec.toNat_append, ← Nat.shiftLeft_add_eq_or_of_lt y.isLt, Nat.shiftLeft_eq]

/-- Bit i of a word, from its value. -/
theorem getLsbD_of_toNat {w : Word} {i : Nat} {b : Bool} (h : w.toNat / 2 ^ i % 2 = b.toNat) :
    w.getLsbD i = b := by
  rw [BitVec.getLsbD, Nat.testBit_eq_decide_div_mod_eq, h]
  cases b <;> rfl

/-- A field of a word, from its value. -/
theorem extractLsb'_of_toNat {w : Word} {lo n : Nat} {x : BitVec n}
    (h : w.toNat / 2 ^ lo % 2 ^ n = x.toNat) : w.extractLsb' lo n = x := by
  apply BitVec.eq_of_toNat_eq
  rw [BitVec.extractLsb'_toNat, Nat.shiftRight_eq_div_pow, h]

theorem StatusReg.word_toNat (st : StatusReg) (busy : Bool) :
    (st.word busy).toNat = busy.toNat + 2 * st.done.toNat + 2 ^ 2 * st.err.toNat +
      2 ^ 3 * st.multi.toNat + 2 ^ 8 * st.errCode.toNat + 2 ^ 16 * st.errMode.toNat +
      2 ^ 18 * st.errEcl.toNat := by
  unfold StatusReg.word
  change BitVec.toNat (w := 12 + 2 + 2 + 8 + 4 + 1 + 1 + 1 + 1) _ = _
  simp only [append_toNat, BitVec.toNat_ofBool, BitVec.toNat_ofNat]
  omega

theorem ConfigReg.word_toNat (c : ConfigReg) :
    c.word.toNat = c.ecl.toNat + 2 ^ 4 * c.vreq.toNat + 2 ^ 8 * c.mreq.toNat +
      2 ^ 12 * c.modeReq.toNat + 2 ^ 16 * c.ie.toNat := by
  unfold ConfigReg.word
  change BitVec.toNat (w := 15 + 1 + 2 + 2 + 4 + 4 + 2 + 2) _ = _
  simp only [append_toNat, BitVec.toNat_ofBool, BitVec.toNat_ofNat]
  omega

theorem ResolvedReg.word_toNat (r : ResolvedReg) :
    r.word.toNat = r.ver.toNat + 2 ^ 4 * r.mode.toNat + 2 ^ 8 * r.mask.toNat := by
  unfold ResolvedReg.word
  change BitVec.toNat (w := 21 + 3 + 2 + 2 + 4) _ = _
  simp only [append_toNat, BitVec.toNat_ofNat]
  omega

/-- A word is the number of its value. -/
theorem word_eq_ofNat {w : Word} {n : Nat} (h : w.toNat = n) : w = BitVec.ofNat 32 n := by
  rw [← h, BitVec.ofNat_toNat, BitVec.setWidth_eq]

/-- CONFIG keeps the non-reserved bits of what is written (R27): bit by bit. -/
theorem ConfigReg.word_ofWord (v : Word) : (ConfigReg.ofWord v).word = v &&& 0x00013FF3 := by
  apply BitVec.eq_of_getLsbD_eq
  intro i hi
  unfold ConfigReg.word
  change BitVec.getLsbD (w := 15 + 1 + 2 + 2 + 4 + 4 + 2 + 2) _ _ = _
  simp only [ConfigReg.ofWord, BitVec.getLsbD_append, BitVec.getLsbD_extractLsb', BitVec.getLsbD_zero,
    BitVec.getLsbD_ofBool, BitVec.getLsbD_and]
  interval_cases i <;> simp

/-- RESOLVED keeps the non-reserved bits of what is written (R32): bit by bit. -/
theorem ResolvedReg.word_ofWord (v : Word) : (ResolvedReg.ofWord v).word = v &&& 0x0000073F := by
  apply BitVec.eq_of_getLsbD_eq
  intro i hi
  unfold ResolvedReg.word
  change BitVec.getLsbD (w := 21 + 3 + 2 + 2 + 4) _ _ = _
  simp only [ResolvedReg.ofWord, BitVec.getLsbD_append, BitVec.getLsbD_extractLsb', BitVec.getLsbD_zero,
    BitVec.getLsbD_and]
  interval_cases i <;> simp

/-- TEXTLEN keeps the low 16 bits of what is written (R28). -/
theorem textLen_readback (v : Word) : (v.setWidth 16).setWidth 32 = v &&& 0x0000FFFF := by
  apply BitVec.eq_of_toNat_eq
  have hmask : (0x0000FFFF : Word).toNat = 2 ^ 16 - 1 := rfl
  rw [BitVec.toNat_and, hmask, Nat.and_two_pow_sub_one_eq_mod, BitVec.toNat_setWidth,
    BitVec.toNat_setWidth]
  omega

/-! ### The combinational registers (R33, R34) -/

/-- No supported version is resolved exactly when RESOLVED.VER is outside 1..10 (R32). -/
theorem State.resolvedVersion_eq_none {s : State} : s.resolvedVersion = none ↔ s.noVersion := by
  rw [Option.eq_none_iff_forall_ne_some]
  simp only [ne_eq, State.resolvedVersion_eq_some, State.noVersion]
  constructor
  · intro h
    have := h s.resolved.ver.toNat
    omega
  · rintro h v ⟨rfl, hlo, hhi⟩
    omega

theorem State.sizeReg_of_version {s : State} {v : Nat} (h : s.resolvedVersion = some v) :
    s.sizeReg = gridSide v := by rw [State.sizeReg, h]

theorem State.tableReg_of_version {s : State} {v : Nat} (h : s.resolvedVersion = some v)
    (f : Nat → BitVec 2 → Nat) : s.tableReg f = f v s.config.ecl := by
  rw [State.tableReg, h]; rfl

theorem State.sizeReg_of_none {s : State} (h : s.resolvedVersion = none) : s.sizeReg = 0 := by
  rw [State.sizeReg, h]

theorem State.tableReg_of_none {s : State} (h : s.resolvedVersion = none) (f : Nat → BitVec 2 → Nat) :
    s.tableReg f = 0 := by rw [State.tableReg, h]

/-- A number that fits a register reads as itself. -/
theorem ofNat_toNat_of_le {n : Nat} (h : n ≤ 4096) : (BitVec.ofNat 32 n).toNat = n := by
  rw [BitVec.toNat_ofNat, Nat.mod_eq_of_lt (by omega)]

/-- VT (R54) gives the numbers of the tables of R54 and R55, all of which fit a register. -/
theorem vt_numbers : ∀ v < 11, ∀ l : BitVec 2,
    ndata v l = tableEntry ndataRows v l ∧ ecpb v l = tableEntry ecRows v l ∧
    nblocks v l = tableEntry blockRows v l ∧ ntotal v l = ntotalRow.getD v 0 ∧
    ndata v l ≤ 4096 ∧ ecpb v l ≤ 4096 ∧ nblocks v l ≤ 4096 ∧ ntotal v l ≤ 4096 := by
  decide +kernel

end Sys2Proof.Machine
end

namespace Sys2Proof.Proofs

open Sys2Proof.Machine

/-- Settles O17: W1C in either phase, by bit 2. -/
theorem statusWritesClearByOnes : Obligations.StatusWritesClearByOnes := by
  intro v s
  refine ⟨_, hostWrite_status v s, rfl, StatusReg.w1c_done _ _, fun h => ?_, fun h => ?_⟩
  · rw [writeStatus, State.setStatus_status, StatusReg.w1c_of_bit2 h]
    exact ⟨rfl, rfl, rfl, rfl, rfl⟩
  · rw [writeStatus, State.setStatus_status, StatusReg.w1c_of_not_bit2 h]
    exact ⟨rfl, rfl, rfl, rfl, rfl⟩

/-- Settles O18: every field is read off the value of the word. -/
theorem statusReadsItsFields : Obligations.StatusReadsItsFields := by
  intro s
  have hw : s.statusWord.toNat = _ := s.status.word_toNat s.phase.isBusy
  have hbusy := s.phase.isBusy.toNat_lt
  have hdone := s.status.done.toNat_lt
  have herr := s.status.err.toNat_lt
  have hmulti := s.status.multi.toNat_lt
  have hcode := s.status.errCode.isLt
  have hmode := s.status.errMode.isLt
  have hecl := s.status.errEcl.isLt
  have h0 : s.statusWord.getLsbD 0 = s.phase.isBusy := getLsbD_of_toNat (by omega)
  have hlow : s.statusWord.toNat / 2 ^ 4 % 2 ^ 4 = 0 := by omega
  have hhigh : s.statusWord.toNat / 2 ^ 20 % 2 ^ 12 = 0 := by omega
  exact ⟨by rw [h0, Phase.isBusy_iff], getLsbD_of_toNat (by omega), getLsbD_of_toNat (by omega),
    getLsbD_of_toNat (by omega), extractLsb'_of_toNat hlow, extractLsb'_of_toNat (by omega),
    extractLsb'_of_toNat (by omega), extractLsb'_of_toNat (by omega), extractLsb'_of_toNat hhigh⟩

/-- Settles O19: what a write stores is what reads back, and the write touches one register. -/
theorem rwRegistersKeepTheirFields : Obligations.RwRegistersKeepTheirFields := by
  intro v s hp
  have hidle := Phase.isBusy_of_idle hp
  have hconfig : hostWrite 0x004 .word v s = writeReg .config v s :=
    hostWrite_reg (by decide) (.inl hidle)
  have htextLen : hostWrite 0x008 .word v s = writeReg .textLen v s :=
    hostWrite_reg (by decide) (.inl hidle)
  have hresolved : hostWrite 0x018 .word v s = writeReg .resolved v s :=
    hostWrite_reg (by decide) (.inl hidle)
  rw [hconfig, htextLen, hresolved]
  exact ⟨⟨_, rfl, ConfigReg.word_ofWord v⟩, ⟨_, rfl, textLen_readback v⟩,
    ⟨_, rfl, ResolvedReg.word_ofWord v⟩⟩

/-- Settles O20: a write to a read-only register is illegal, and a read answers the register's word. -/
theorem readOnlyRegistersIgnoreWrites : Obligations.ReadOnlyRegistersIgnoreWrites := by
  refine ⟨fun off v s r ht hr => ?_, fun s => hostRead_reg (r := .id) (by decide) (.inr rfl),
    fun s hp => ?_⟩
  · have hro : (Target.reg r).readOnly = true := by
      cases r <;> simp [Target.readOnly, Reg.readOnly] at hr ⊢
    rw [hostWrite_illegal v s (writable_of_readOnly ht hro)]
    refine ⟨rfl, fun q hq => ?_⟩
    cases q
    case status => exact absurd rfl hq
    all_goals rfl
  · have hread : ∀ {off : Offset} {r : Reg} {x : Word}, target off .word = some (.reg r) →
        s.readReg r = x → hostRead off .word s = { s with reply := some x } := fun ht hx =>
      hx ▸ hostRead_reg ht (.inl (Phase.isBusy_of_idle hp))
    have hpen : ∀ m : Fin 8,
        target (BitVec.ofNat 14 (0x040 + 4 * m.val)) .word = some (.reg (.pen m)) := by decide
    have hscore : ∀ k : Fin 4,
        target (BitVec.ofNat 14 (0x060 + 4 * k.val)) .word = some (.reg (.score k)) := by decide
    refine ⟨?_, fun m => hread (hpen m) rfl, fun k => hread (hscore k) rfl⟩
    simp only [List.forall_mem_cons]
    exact ⟨hread (r := .config) (by decide) (word_eq_ofNat (ConfigReg.word_toNat _)),
      hread (r := .textLen) (by decide) (BitVec.ofNat_toNat _ _).symm,
      hread (r := .cmd) (by decide) rfl, hread (r := .status) (by decide) rfl,
      hread (r := .result) (by decide) rfl,
      hread (r := .resolved) (by decide) (word_eq_ofNat (ResolvedReg.word_toNat _)),
      hread (r := .bitLen) (by decide) (BitVec.ofNat_toNat _ _).symm,
      hread (r := .format) (by decide) (BitVec.ofNat_toNat _ _).symm,
      hread (r := .verWord) (by decide) (BitVec.ofNat_toNat _ _).symm,
      hread (r := .size) (by decide) rfl, hread (r := .ndata) (by decide) rfl,
      hread (r := .ntotal) (by decide) rfl, hread (r := .ecpb) (by decide) rfl,
      hread (r := .nblocks) (by decide) rfl, fun _ h => absurd h List.not_mem_nil⟩

/-- Settles O21: the registers are functions of VT, whose numbers are those of the tables. -/
theorem combinationalRegistersFollowTheTables : Obligations.CombinationalRegistersFollowTheTables := by
  intro s
  refine ⟨fun hnone => ?_, fun v hv => ?_⟩
  · have hn := State.resolvedVersion_eq_none.2 hnone
    simp [State.readReg, State.sizeReg_of_none hn, State.tableReg_of_none hn]
  · have hr := State.resolvedVersion_eq_some.2 hv
    obtain ⟨-, -, hle⟩ := hv
    obtain ⟨hn, he, hb, ht, hnle, hele, hble, htle⟩ := vt_numbers v (by omega) s.config.ecl
    have hside : gridSide v ≤ 4096 := by unfold gridSide; omega
    simp only [State.readReg, State.sizeReg_of_version hr, State.tableReg_of_version hr,
      ofNat_toNat_of_le hside, ofNat_toNat_of_le hnle, ofNat_toNat_of_le hele, ofNat_toNat_of_le hble,
      ofNat_toNat_of_le htle]
    exact ⟨rfl, hn, he, hb, ht, rfl, rfl, rfl, rfl⟩

/-- Settles O25: the line falls with DONE and ERR, or with IE. -/
theorem irqFollowsEnableAndStatus : Obligations.IrqFollowsEnableAndStatus := by
  refine ⟨fun s => by simp [State.irq], rfl, fun v s h1 h2 => ?_, fun v s hp h16 => ?_⟩
  · rw [hostWrite_status, State.irq, writeStatus, State.setStatus_status, StatusReg.w1c_of_bit2 h2]
    simp [h1]
  · rw [hostWrite_reg (r := .config) (by decide) (.inl (Phase.isBusy_of_idle hp)), State.irq]
    simp only [writeReg, State.setConfig_config, ConfigReg.ofWord, h16, Bool.false_and]

end Sys2Proof.Proofs

section
/-! PROOFS. The conditions of 41_bitstream.md R150 to R155 as Safety.lean writes them out are what the model's
checks decide. -/

namespace Sys2Proof.Machine

/-! ### Eligibility and mode (R150, R151) -/

theorem isNumeric_iff (b : Byte) : isNumeric b = true ↔ 0x30 ≤ b.toNat ∧ b.toNat ≤ 0x39 := by
  rw [isNumeric, Bool.and_eq_true, decide_eq_true_eq, decide_eq_true_eq]

/-- The 45 bytes of R59 are the ranges and single bytes of R150. -/
theorem isAlnum_iff : ∀ b : Byte, isAlnum b = true ↔
    (0x30 ≤ b.toNat ∧ b.toNat ≤ 0x39) ∨ (0x41 ≤ b.toNat ∧ b.toNat ≤ 0x5A) ∨
      b.toNat ∈ [0x20, 0x24, 0x25, 0x2A, 0x2B, 0x2D, 0x2E, 0x2F, 0x3A] := by
  decide +kernel

theorem numOK_iff (t : List Byte) : numOK t = true ↔ numericText t := by
  simp only [numOK, List.all_eq_true, isNumeric_iff, numericText]

theorem alnumOK_iff (t : List Byte) : alnumOK t = true ↔ alnumText t := by
  simp only [alnumOK, List.all_eq_true, isAlnum_iff, alnumText]

theorem eligible_iff (md : Mode) (t : List Byte) : eligible md t = true ↔ modeEligible md t := by
  cases md with
  | numeric => exact numOK_iff t
  | alphanumeric => exact alnumOK_iff t
  | byte => exact iff_of_true rfl trivial

theorem eligible_eq_false_iff (md : Mode) (t : List Byte) :
    eligible md t = false ↔ ¬ modeEligible md t := by
  rw [← eligible_iff, Bool.not_eq_true]

@[simp] theorem Mode.ofCode_code (md : Mode) : Mode.ofCode md.code = some md := by cases md <;> rfl

/-- The mode the commands try is the mode attempted (R151). -/
theorem requestedMode_of_attempted {req : BitVec 2} {t : List Byte} {md : Mode}
    (h : modeAttempted req t md) : requestedMode req t = md := by
  rcases h with rfl | ⟨rfl, h⟩
  · rw [requestedMode, Mode.ofCode_code, Option.getD_some]
  · change autoMode t = md
    unfold autoMode
    cases md with
    | numeric => rw [if_pos ((numOK_iff t).2 h)]
    | alphanumeric => rw [if_neg (mt (numOK_iff t).1 h.1), if_pos ((alnumOK_iff t).2 h.2)]
    | byte => rw [if_neg (mt (numOK_iff t).1 h.1), if_neg (mt (alnumOK_iff t).1 h.2)]

/-! ### Lengths and capacity (R57, R152, R154) -/

theorem ccw_eq_countWidth {v : Nat} (hv : v ≤ 10) (md : Mode) : ccw v md = countWidth v md := by
  have h26 : v ≤ 26 := by omega
  by_cases h9 : v ≤ 9 <;> cases md <;> simp [ccw, countWidth, h9, h26]

theorem payloadBits_eq_payloadLength (md : Mode) (len : Nat) :
    payloadBits md len = payloadLength md len := by
  cases md with
  | numeric =>
    have h : len % 3 = 0 ∨ len % 3 = 1 ∨ len % 3 = 2 := by omega
    rcases h with h | h | h <;> simp [payloadBits, payloadLength, h]
  | alphanumeric => rfl
  | byte => rfl

theorem streamBits_eq_textBits {v : Nat} (hv : v ≤ 10) (md : Mode) (len : Nat) :
    streamBits v md len = textBits v md len := by
  rw [streamBits, textBits, ccw_eq_countWidth hv, payloadBits_eq_payloadLength]

theorem fits_iff {l : BitVec 2} {md : Mode} {len v : Nat} (hv : v ≤ 10) :
    fits l md len v = true ↔ fitsVersion l md len v := by
  rw [fits, decide_eq_true_eq, streamBits_eq_textBits hv, (vt_numbers v (by omega) l).1, fitsVersion]

theorem fits_eq_false_iff {l : BitVec 2} {md : Mode} {len v : Nat} (hv : v ≤ 10) :
    fits l md len v = false ↔ ¬ fitsVersion l md len v := by
  rw [← fits_iff hv, Bool.not_eq_true]

/-- The bit length of a text that TEXT can hold fits BITLEN (R35, R40). -/
theorem textBits_lt {v : Nat} {md : Mode} {len : Nat} (h : len ≤ 1024) : textBits v md len < 2 ^ 16 := by
  have hcount : countWidth v md ≤ 16 := by
    cases md <;> simp only [countWidth] <;> split <;> omega
  have hpayload : payloadLength md len ≤ 8 * len + 7 := by
    cases md with
    | numeric => simp only [payloadLength]; split_ifs <;> omega
    | alphanumeric => simp only [payloadLength]; omega
    | byte => exact Nat.le_add_right _ 7
  unfold textBits
  omega

/-- BITLEN holds the bit length of R152 whole. -/
theorem bitLen_toNat {v : Nat} (hv : v ≤ 10) {md : Mode} {len : Nat} (h : len ≤ 1024) :
    (BitVec.ofNat 16 (streamBits v md len)).toNat = textBits v md len := by
  rw [streamBits_eq_textBits hv, BitVec.toNat_ofNat, Nat.mod_eq_of_lt (textBits_lt h)]

/-! ### Version choice (R155) -/

/-- The version the commands choose is the version chosen of R155. -/
theorem chooseVersion_iff {vreq : Nat} (hreq : vreq ≤ 10) {l : BitVec 2} {md : Mode} {len v : Nat} :
    chooseVersion vreq l md len = some v ↔ versionChosen vreq l md len v := by
  rw [chooseVersion_eq_some hreq, versionChosen]
  exact and_congr_right fun _ => and_congr_right fun hhi => and_congr (fits_iff hhi) (or_congr_right
    (and_congr_right fun _ => forall_congr' fun u => imp_congr_right fun _ =>
      forall_congr' fun hlt => fits_eq_false_iff (by omega)))

end Sys2Proof.Machine
end

section
/-! PROOFS. SELECT and PACK (41_bitstream.md R161, R162): what each check and the success answer. -/

namespace Sys2Proof.Machine

variable {s : State}

/-! ### SELECT -/

/-- Check 1 of R153. -/
theorem execSelect_badConfig (h : 10 < s.config.vreq.toNat) :
    execSelect s = raise (.plain .badConfig) s := if_pos h

/-- An error of the other checks is raised (R153). -/
theorem execSelect_error (hreq : s.config.vreq.toNat ≤ 10) {e : CmdError}
    (h : s.chooseModeVersion = .error e) : execSelect s = raise e s := by
  rw [execSelect, if_neg (Nat.not_lt.2 hreq), h]

/-- SELECT's writes (R161). -/
theorem execSelect_ok (hreq : s.config.vreq.toNat ≤ 10) {md : Mode} {v : Nat}
    (h : s.chooseModeVersion = .ok (md, v)) : execSelect s =
      complete ((s.setVersionMode v md).setBitLen (BitVec.ofNat 16 (streamBits v md s.len))) := by
  rw [execSelect, if_neg (Nat.not_lt.2 hreq), h]

/-! ### PACK -/

/-- The first check that fails is raised (R162). -/
theorem execPack_error {v : Nat} {md : Mode} (hv : s.resolvedVersion = some v)
    (hmd : s.resolved.mode = md.code) {e : CmdError} (h : s.packChecks v md = some e) :
    execPack s = raise e s := by
  simp only [execPack, withVersion, hv, hmd, Mode.ofCode_code, h]

/-- PACK's writes (R162). -/
theorem execPack_ok {v : Nat} {md : Mode} (hv : s.resolvedVersion = some v)
    (hmd : s.resolved.mode = md.code) (h : s.packChecks v md = none) : execPack s =
      complete ((s.writeBytes Buf.dataCw.base (dataCw s.text md v s.level)).setBitLen
        (BitVec.ofNat 16 (streamBits v md s.len))) := by
  simp only [execPack, withVersion, hv, hmd, Mode.ofCode_code, h]

/-- Without a version or a mode PACK raises BAD_CONFIG (R162). -/
theorem execPack_badConfig (h : s.noVersion ∨ s.resolved.mode = 0) :
    execPack s = raise (.plain .badConfig) s := by
  rw [execPack, withVersion]
  cases hv : s.resolvedVersion with
  | none => rfl
  | some v =>
    rcases h with hno | hmode
    · rw [State.resolvedVersion_eq_none.2 hno] at hv
      cases hv
    · rw [hmode]; rfl

end Sys2Proof.Machine
end

namespace Sys2Proof.Proofs

open Sys2Proof.Machine

/-- Settles O35: each clause is one outcome of the checks, in their order. -/
theorem selectChoosesModeAndVersion : Obligations.SelectChoosesModeAndVersion := by
  intro s
  refine ⟨execSelect_badConfig, fun hreq hlen => ?_, fun md hreq hlen hmd => ?_⟩
  · rcases s.chooseModeVersion_cases with ⟨-, he⟩ | ⟨md, -, hle, -⟩
    · exact execSelect_error hreq he
    · exact absurd hle (Nat.not_le.2 hlen)
  · rcases s.chooseModeVersion_cases with ⟨hlt, -⟩ | ⟨md', rfl, -, hcases⟩
    · exact absurd hlen (Nat.not_le.2 hlt)
    rw [requestedMode_of_attempted hmd] at hcases
    rcases hcases with ⟨hel, he⟩ | ⟨hel, hnone, he⟩ | ⟨v, hel, hsome, hok⟩
    · refine ⟨fun _ => execSelect_error hreq he, fun hyes => ?_⟩
      exact absurd hyes ((eligible_eq_false_iff _ _).1 hel)
    · refine ⟨fun hno => absurd ((eligible_iff _ _).1 hel) hno, fun _ => ⟨fun v hv => ?_, fun _ =>
        execSelect_error hreq he⟩⟩
      cases hnone.symm.trans ((chooseVersion_iff hreq).2 hv)
    · have hchosen := (chooseVersion_iff hreq).1 hsome
      refine ⟨fun hno => absurd ((eligible_iff _ _).1 hel) hno, fun _ => ⟨fun u hu => ?_, fun hnone =>
        absurd hchosen (hnone v)⟩⟩
      cases hsome.symm.trans ((chooseVersion_iff hreq).2 hu)
      obtain ⟨-, hle, -⟩ := hchosen
      refine ⟨_, execSelect_ok hreq hok, ⟨rfl, rfl⟩, fun _ => rfl, rfl, ?_, rfl, rfl,
        bitLen_toNat hle hlen⟩
      exact (BitVec.toNat_ofNat v 4).trans (Nat.mod_eq_of_lt (by omega))

/-- Settles O36: each clause is one outcome of the checks, in their order. -/
theorem packStoresTheDataCodewords : Obligations.PackStoresTheDataCodewords := by
  intro s
  refine ⟨execPack_badConfig, fun v md hv hmd => ?_⟩
  have hrv := State.resolvedVersion_eq_some.2 hv
  obtain ⟨-, -, hle⟩ := hv
  rcases s.packChecks_cases v md with ⟨hlen, h⟩ | ⟨hlen, hel, h⟩ | ⟨hlen, hel, hfit, h⟩ |
    ⟨hlen, hel, hfit, h⟩
  · have hno : ¬ s.textLen.toNat ≤ 1024 := Nat.not_le.2 hlen
    exact ⟨fun _ => execPack_error hrv hmd h, fun hle => absurd hle hno, fun hle => absurd hle hno,
      fun hle => absurd hle hno⟩
  · have hno := (eligible_eq_false_iff _ _).1 hel
    exact ⟨fun hgt => absurd hlen (Nat.not_le.2 hgt), fun _ _ => execPack_error hrv hmd h,
      fun _ hyes => absurd hyes hno, fun _ hyes => absurd hyes hno⟩
  · have hyes := (eligible_iff _ _).1 hel
    have hno := (fits_eq_false_iff hle).1 hfit
    exact ⟨fun hgt => absurd hlen (Nat.not_le.2 hgt), fun _ hne => absurd hyes hne,
      fun _ _ _ => execPack_error hrv hmd h, fun _ _ hf => absurd hf hno⟩
  · have hyes := (eligible_iff _ _).1 hel
    have hf := (fits_iff hle).1 hfit
    have hdl : (dataCw s.text md v s.level).length = ndata v s.config.ecl :=
      dataCw_length (by simpa using hfit)
    refine ⟨fun hgt => absurd hlen (Nat.not_le.2 hgt), fun _ hne => absurd hyes hne,
      fun _ _ hne => absurd hf hne, fun _ _ _ => ⟨_, execPack_ok hrv hmd h, ⟨rfl, rfl⟩, rfl, ?_,
        bitLen_toNat hle hlen, fun a ha => ?_⟩⟩
    · rw [← hdl]
      exact s.readBytes_writeBytes _ _
    · exact s.readByte_writeBytes_outside (by rw [hdl]; exact ha)

end Sys2Proof.Proofs

section
/-! PROOFS. The host window of 20_memory.md R70 to R80: which accesses R74 makes legal, and what an illegal
one (R75) and an access to a buffer byte do. -/

namespace Sys2Proof.Machine

/-! ### The address map as ranges (R70, R74) -/

theorem Buf.holds_iff (b : Buf) (a : Nat) :
    b.holds a = true ↔ b.base ≤ a ∧ a < b.base + b.size := by
  simp [Buf.holds]

/-- The buffers fill 0x1000..0x193F and the window from 0x2000 on (R70). -/
theorem inBuffer_iff (a : Nat) :
    inBuffer a = true ↔ (0x1000 ≤ a ∧ a < 0x1940) ∨ (0x2000 ≤ a ∧ a < 0x4000) := by
  simp only [inBuffer, bufAt, List.find?_isSome, Buf.all, List.exists_mem_cons_iff, List.not_mem_nil,
    false_and, exists_false, or_false, Buf.holds_iff, Buf.base, Buf.size]
  omega

/-- No register lies past SCORE[3]. -/
theorem lt_of_regAt {n : Nat} {r : Reg} (h : regAt n = some r) : n < 0x70 := by
  unfold regAt at h
  split at h
  -- the catch-all row of R39 answers no register
  case h_28 => cases h
  all_goals decide

theorem regAt_isSome_iff (n : Nat) :
    (regAt n).isSome = true ↔ n % 4 = 0 ∧ n < 0x70 ∧ n ≠ 0x3C := by
  have hmap : ∀ k < 0x70, (regAt k).isSome = true ↔ k % 4 = 0 ∧ k < 0x70 ∧ k ≠ 0x3C := by decide
  refine ⟨fun h => ?_, fun h => (hmap n h.2.1).2 h⟩
  obtain ⟨r, hr⟩ := Option.isSome_iff_exists.1 h
  exact (hmap n (lt_of_regAt hr)).1 h

/-- The registers that take a write: CONFIG, TEXTLEN, CMD, STATUS and RESOLVED (R25, log 9). -/
theorem regAt_writable_iff (n : Nat) :
    (∃ r, regAt n = some r ∧ r.readOnly = false) ↔ n ∈ [0x004, 0x008, 0x00C, 0x010, 0x018] := by
  have hmap : ∀ k < 0x70, ∀ r ∈ regAt k,
      r.readOnly = false ↔ k ∈ [0x004, 0x008, 0x00C, 0x010, 0x018] := by decide
  constructor
  · rintro ⟨r, hr, hro⟩
    exact (hmap n (lt_of_regAt hr) r hr).1 hro
  · have hdef : ∀ k ∈ [0x004, 0x008, 0x00C, 0x010, 0x018], (regAt k).isSome = true ∧ k < 0x70 := by
      decide
    intro hn
    obtain ⟨hsome, hlt⟩ := hdef n hn
    obtain ⟨r, hr⟩ := Option.isSome_iff_exists.1 hsome
    exact ⟨r, hr, (hmap n hlt r hr).2 hn⟩

/-! ### Legal accesses (R74) -/

theorem target_word_isSome_iff (off : Offset) :
    (target off .word).isSome = true ↔ off.toNat % 4 = 0 ∧ off.toNat < 0x70 ∧ off.toNat ≠ 0x3C := by
  rw [target, Option.isSome_map, regAt_isSome_iff]

/-- A byte access is legal inside a buffer, and reaches that byte. -/
theorem target_byte_of_inBuffer {off : Offset} (h : inBuffer off.toNat = true) :
    target off .byte = some (.cell off.toNat) := by
  rw [target, if_pos h]

theorem target_byte_isSome_iff (off : Offset) :
    (target off .byte).isSome = true ↔
      (0x1000 ≤ off.toNat ∧ off.toNat < 0x1940) ∨ 0x2000 ≤ off.toNat := by
  have hwindow := off.isLt
  have hrange := inBuffer_iff off.toNat
  rw [target, Option.isSome_ite, hrange]
  omega

theorem writable_word_isSome_iff (off : Offset) :
    (writable off .word).isSome = true ↔ off.toNat ∈ [0x004, 0x008, 0x00C, 0x010, 0x018] := by
  rw [← regAt_writable_iff, Option.isSome_iff_exists]
  simp [writable_eq_some, target, Target.readOnly]

/-- No buffer byte is read-only. -/
theorem writable_byte (off : Offset) : writable off .byte = target off .byte := by
  cases h : target off .byte with
  | none => exact writable_none h
  | some t =>
    refine writable_of_not_readOnly h ?_
    rw [target] at h
    split at h
    · cases h; rfl
    · cases h

/-- A write that is legal reaches what a read there reaches. -/
theorem writable_eq_target {off : Offset} {w : Width} (h : (writable off w).isSome = true) :
    writable off w = target off w := by
  obtain ⟨t, ht⟩ := Option.isSome_iff_exists.1 h
  rw [ht, (writable_eq_some.1 ht).1]

/-! ### What an access does -/

/-- A read that reaches no target answers 0 and records a BAD_ACCESS (R75). -/
theorem hostRead_illegal {off : Offset} {w : Width} (s : State) (h : target off w = none) :
    hostRead off w s =
      { s with status := s.status.record (.plain .badAccess), reply := some 0 } := by
  rcases hostRead_cases off w s with ⟨-, hr⟩ | ⟨t, ht, -⟩ | ⟨t, ht, -⟩
  · exact hr
  · cases h.symm.trans ht
  · cases h.symm.trans ht

/-- A byte read of a buffer while PHASE = IDLE answers the byte, zero-extended (R71). -/
theorem hostRead_cell {off : Offset} {s : State} (hp : s.phase = .idle)
    (h : inBuffer off.toNat = true) :
    hostRead off .byte s = { s with reply := some ((s.readByte off.toNat).setWidth 32) } := by
  have hcell := target_byte_of_inBuffer h
  rcases hostRead_cases off .byte s with ⟨hn, -⟩ | ⟨t, -, hb, -⟩ | ⟨t, ht, -, hr⟩
  · cases hcell.symm.trans hn
  · cases (Phase.isBusy_of_idle hp).symm.trans hb
  · cases hcell.symm.trans ht
    exact hr

/-- A byte write to a buffer while PHASE = IDLE stores v[7:0] (R72). -/
theorem hostWrite_cell {off : Offset} {s : State} (v : Word) (hp : s.phase = .idle)
    (h : inBuffer off.toNat = true) :
    hostWrite off .byte v s = s.writeBytes off.toNat [v.setWidth 8] := by
  have hcell := (writable_byte off).trans (target_byte_of_inBuffer h)
  rcases hostWrite_cases off .byte v s with ⟨hn, -⟩ | ⟨t, -, hb, -⟩ | ⟨t, ht, -, hw⟩
  · cases hcell.symm.trans hn
  · cases (Phase.isBusy_of_idle hp).symm.trans hb
  · cases hcell.symm.trans ht
    exact hw

end Sys2Proof.Machine
end

namespace Sys2Proof.Proofs

open Sys2Proof.Machine

/-- Settles O13: the map's registers and buffers as ranges of offsets, and BAD_ACCESS outside them. -/
theorem legalAccessesAreThoseOfTheMap : Obligations.LegalAccessesAreThoseOfTheMap := by
  refine ⟨fun off w => ⟨?_, fun v s h => ?_⟩, fun off w => ⟨?_, writable_eq_target, fun v s h => ?_⟩⟩
  · cases w with
    | word => simpa using target_word_isSome_iff off
    | byte => simpa using target_byte_isSome_iff off
  · have hnone : target off w = none := by simpa using h
    rw [hostRead_illegal s hnone, hostWrite_illegal v s (writable_none hnone)]
    exact ⟨rfl, rfl⟩
  · cases w with
    | word => simpa using writable_word_isSome_iff off
    | byte => simpa [writable_byte] using target_byte_isSome_iff off
  · have hnone : writable off w = none := by simpa using h
    rw [hostWrite_illegal v s hnone]

/-- Settles O22: the access reaches its own byte alone. -/
theorem bufferBytesReadBackAsWritten : Obligations.BufferBytesReadBackAsWritten := by
  intro off v s hp hin
  have hback : (s.writeBytes off.toNat [v.setWidth 8]).readByte off.toNat = v.setWidth 8 :=
    s.readByte_writeBytes_inside off.toNat [v.setWidth 8] (i := 0) Nat.one_pos
  refine ⟨hostRead_cell hp hin, _, hostWrite_cell v hp hin, rfl, hback, fun a ha => ?_, ?_⟩
  · exact s.readByte_writeBytes_outside (by rw [List.length_singleton]; omega)
  · rw [hostRead_cell (s := s.writeBytes _ _) hp hin, hback]

/-- Settles O14: the access changes STATUS by one record, and a read answers 0. -/
theorem illegalAccessesRecordBadAccess : Obligations.IllegalAccessesRecordBadAccess := by
  intro off w v s
  refine ⟨writable_none, fun h herr => ?_, fun h herr => ?_, fun h herr => ?_, fun h herr => ?_⟩
  · rw [hostRead_illegal s h, StatusReg.record_first herr]; rfl
  · rw [hostRead_illegal s h, StatusReg.record_later herr]
  · rw [hostWrite_illegal v s h, StatusReg.record_first herr]; rfl
  · rw [hostWrite_illegal v s h, StatusReg.record_later herr]

end Sys2Proof.Proofs

section
/-! PROOFS. The decoder (30_encoding.md R100, R103, R104): a word decodes to a command exactly when it hits
the command's row, and the row is the one of its opcode and of its mnemonic. -/

namespace Sys2Proof

open Sys2Proof.Machine

theorem field_lt (w : Word) (hi lo : Nat) : field w hi lo < 2 ^ (hi + 1 - lo) :=
  Nat.mod_lt _ (Nat.two_pow_pos _)

theorem opcodeOf_eq (w : Word) : opcodeOf w = w.toNat / 2 ^ 24 :=
  Nat.mod_eq_of_lt (by have := w.isLt; omega)

/-- A field that the mask fixes is the match value's (R103). -/
theorem field_of_match {w mask m : Word} (h : w &&& mask = m) {hi lo : Nat}
    (hmask : field mask hi lo = 2 ^ (hi + 1 - lo) - 1) : field w hi lo = field m hi lo := by
  unfold field at *
  rw [← h, BitVec.toNat_and, Nat.and_div_two_pow, Nat.and_mod_two_pow, hmask,
    Nat.and_two_pow_sub_one_of_lt_two_pow (Nat.mod_lt _ (Nat.two_pow_pos _))]

/-- Every format's mask fixes the whole opcode (R103). -/
theorem Format.mask_opcode (f : Format) : field f.mask 31 24 = 2 ^ 8 - 1 := by cases f <;> rfl

theorem OpRow.hit_iff {r : OpRow} {w : Word} : r.hit w = true ↔ w &&& r.format.mask = r.matchWord := by
  simp [OpRow.hit]

theorem opcodeOf_matchWord : ∀ r ∈ opcodeTable, opcodeOf r.matchWord = r.opc := by decide +kernel

theorem OpRow.opcodeOf_of_hit {r : OpRow} (hr : r ∈ opcodeTable) {w : Word} (h : r.hit w = true) :
    opcodeOf w = r.opc :=
  (field_of_match (OpRow.hit_iff.mp h) r.format.mask_opcode).trans (opcodeOf_matchWord r hr)

theorem opcodeTable_eq_of_opc {r r' : OpRow} (hr : r ∈ opcodeTable) (hr' : r' ∈ opcodeTable)
    (h : r.opc = r'.opc) : r = r' :=
  List.inj_on_of_nodup_map (show (opcodeTable.map OpRow.opc).Nodup by decide) hr hr' h

theorem opcodeTable_eq_of_mnemonic {r r' : OpRow} (hr : r ∈ opcodeTable) (hr' : r' ∈ opcodeTable)
    (h : r.mnemonic = r'.mnemonic) : r = r' :=
  List.inj_on_of_nodup_map (show (opcodeTable.map OpRow.mnemonic).Nodup by decide) hr hr' h

/-- A row's operands are assembled into the row's own command. -/
theorem mnemonic_build (w : Word) : ∀ r ∈ opcodeTable, (r.build w).mnemonic = r.mnemonic := by
  simp [opcodeTable, opcodeRowsLow, opcodeRowsHigh, Instr.mnemonic]

/-- A word that hits a row decodes by it: no other row has its opcode. -/
theorem decode_of_hit {r : OpRow} (hr : r ∈ opcodeTable) {w : Word} (h : r.hit w = true) :
    decode w = .ok (r.build w) := by
  have hopc := OpRow.opcodeOf_of_hit hr h
  cases hf : opcodeTable.find? (fun r => r.opc == opcodeOf w) with
  | none => simpa [hopc] using List.find?_eq_none.mp hf r hr
  | some r' =>
    have hr' : r'.opc = opcodeOf w := by simpa using List.find?_some hf
    obtain rfl := opcodeTable_eq_of_opc (List.mem_of_find?_eq_some hf) hr (hr'.trans hopc)
    simp [decode, hf, h]

theorem decode_eq_ok_iff {w : Word} {i : Instr} :
    decode w = .ok i ↔ ∃ r ∈ opcodeTable, r.hit w = true ∧ r.build w = i := by
  constructor
  · intro h
    unfold decode at h
    split at h
    · cases h
    case _ r hf =>
      split at h
      case isTrue hhit => exact ⟨r, List.mem_of_find?_eq_some hf, hhit, Except.ok.inj h⟩
      case isFalse => cases h
  · rintro ⟨r, hr, hhit, rfl⟩
    exact decode_of_hit hr hhit

/-! ### The rows of the table and those of R103 -/

/-- The columns of R103 that a row of the table has. -/
def OpRow.toMapRow (r : OpRow) : MapRow := ⟨r.mnemonic, r.matchWord, r.format.mask⟩

theorem opcodeTable_map_toMapRow : opcodeTable.map OpRow.toMapRow = opcodeMap := rfl

theorem mem_opcodeMap_iff {row : MapRow} : row ∈ opcodeMap ↔ ∃ r ∈ opcodeTable, r.toMapRow = row := by
  rw [← opcodeTable_map_toMapRow, List.mem_map]

theorem decode_of_match {row : MapRow} (hrow : row ∈ opcodeMap) {w : Word}
    (h : w &&& row.mask = row.matchWord) : ∃ i, decode w = .ok i ∧ i.mnemonic = row.mnemonic := by
  obtain ⟨r, hr, rfl⟩ := mem_opcodeMap_iff.mp hrow
  exact ⟨r.build w, decode_of_hit hr (OpRow.hit_iff.mpr h), mnemonic_build w r hr⟩

/-- The row a word decodes by has the command's mnemonic. -/
theorem match_of_decode {w : Word} {i : Instr} (h : decode w = .ok i) :
    ∃ row ∈ opcodeMap, row.mnemonic = i.mnemonic ∧ w &&& row.mask = row.matchWord := by
  obtain ⟨r, hr, hhit, rfl⟩ := decode_eq_ok_iff.mp h
  exact ⟨r.toMapRow, mem_opcodeMap_iff.mpr ⟨r, hr, rfl⟩, (mnemonic_build w r hr).symm,
    OpRow.hit_iff.mp hhit⟩

theorem opcodeMap_eq_of_mnemonic {row row' : MapRow} (h : row ∈ opcodeMap) (h' : row' ∈ opcodeMap)
    (hm : row.mnemonic = row'.mnemonic) : row = row' :=
  List.inj_on_of_nodup_map (show (opcodeMap.map MapRow.mnemonic).Nodup by decide) h h' hm

theorem match_iff_decode {row : MapRow} (hrow : row ∈ opcodeMap) (w : Word) :
    w &&& row.mask = row.matchWord ↔ ∃ i, decode w = .ok i ∧ i.mnemonic = row.mnemonic := by
  refine ⟨decode_of_match hrow, fun ⟨i, hi, hm⟩ => ?_⟩
  obtain ⟨row', hrow', hm', hw⟩ := match_of_decode hi
  exact opcodeMap_eq_of_mnemonic hrow' hrow (hm'.trans hm) ▸ hw

/-- At most one row matches a word: the word decodes to one command. -/
theorem opcodeMap_eq_of_match {row row' : MapRow} (h : row ∈ opcodeMap) (h' : row' ∈ opcodeMap)
    {w : Word} (hw : w &&& row.mask = row.matchWord) (hw' : w &&& row'.mask = row'.matchWord) :
    row = row' := by
  obtain ⟨i, hi, hm⟩ := decode_of_match h hw
  obtain ⟨i', hi', hm'⟩ := decode_of_match h' hw'
  obtain rfl : i = i' := Except.ok.inj (hi.symm.trans hi')
  exact opcodeMap_eq_of_mnemonic h h' (hm.symm.trans hm')

theorem mnemonic_mem_opcodeMap (i : Instr) : i.mnemonic ∈ opcodeMap.map MapRow.mnemonic := by
  cases i <;> simp [opcodeMap, Instr.mnemonic]

/-- A row's opcode is none of those R104 lists as illegal. -/
theorem listedOpcode_of_match {row : MapRow} (hrow : row ∈ opcodeMap) {w : Word}
    (h : w &&& row.mask = row.matchWord) : ¬ unlistedOpcode (w.toNat / 2 ^ 24) := by
  obtain ⟨r, hr, rfl⟩ := mem_opcodeMap_iff.mp hrow
  have hlisted : ∀ r ∈ opcodeTable, ¬ unlistedOpcode r.opc := by
    simp [opcodeTable, opcodeRowsLow, opcodeRowsHigh, unlistedOpcode]
  rw [← opcodeOf_eq, OpRow.opcodeOf_of_hit hr (OpRow.hit_iff.mpr h)]
  exact hlisted r hr

/-- A word without a row is illegal (R104). -/
theorem decode_error_of_unmatched {w : Word} (h : ∀ row ∈ opcodeMap, w &&& row.mask ≠ row.matchWord) :
    ∃ e, decode w = .error e := by
  cases hd : decode w with
  | error e => exact ⟨e, rfl⟩
  | ok i =>
    obtain ⟨row, hrow, -, hw⟩ := match_of_decode hd
    exact absurd hw (h row hrow)

end Sys2Proof
end


section
/-! PROOFS. The words of R106 as numbers, and what the decoder reads from the fields of such a word. -/

namespace Sys2Proof

open Sys2Proof.Machine

theorem ofNat_shiftLeft (n k : Nat) : BitVec.ofNat 32 n <<< k = BitVec.ofNat 32 (n * 2 ^ k) := by
  apply BitVec.eq_of_toNat_eq
  simp [Nat.shiftLeft_eq]

/-- A field of k bits beside the fields above it: no carry. -/
theorem ofNat_or_ofNat {m x : Nat} (k : Nat) (hm : 2 ^ k ∣ m) (hx : x < 2 ^ k) :
    BitVec.ofNat 32 m ||| BitVec.ofNat 32 x = BitVec.ofNat 32 (m + x) := by
  obtain ⟨q, rfl⟩ := hm
  rw [Nat.two_pow_add_eq_or_of_lt hx, BitVec.ofNat_or]

/-- A match value m with one field below bit k and one above it: no carry. -/
theorem ofNat_or_or_ofNat {m x y : Nat} (k : Nat) (hk : k ≤ 24) (hm : 2 ^ 24 ∣ m)
    (hx : x * 2 ^ k < 2 ^ 24) (hy : y < 2 ^ k) :
    BitVec.ofNat 32 m ||| BitVec.ofNat 32 x <<< k ||| BitVec.ofNat 32 y =
      BitVec.ofNat 32 (m + x * 2 ^ k + y) := by
  rw [ofNat_shiftLeft, ofNat_or_ofNat 24 hm hx,
    ofNat_or_ofNat k (Nat.dvd_add ((Nat.pow_dvd_pow 2 hk).trans hm) (Nat.dvd_mul_left _ _)) hy]

theorem encode_gfmul (a b : Byte) :
    encode (.gfmul a b) = BitVec.ofNat 32 (0x01000000 + a.toNat * 2 ^ 8 + b.toNat) := by
  rw [encode, ← BitVec.ofNat_toNat, ← BitVec.ofNat_toNat]
  exact ofNat_or_or_ofNat 8 (by decide) (by decide) (by omega) (by omega)

theorem encode_gfpow (a : Byte) {e : Nat} (he : e < 2 ^ 16) :
    encode (.gfpow a e) = BitVec.ofNat 32 (0x02000000 + a.toNat * 2 ^ 16 + e) := by
  rw [encode, ← BitVec.ofNat_toNat]
  exact ofNat_or_or_ofNat 16 (by decide) (by decide) (by omega) he

theorem encode_gfexp {i : Nat} (hi : i < 2 ^ 9) :
    encode (.gfexp i) = BitVec.ofNat 32 (0x03000000 + i) :=
  ofNat_or_ofNat 9 (by decide) hi

theorem encode_gflog (a : Byte) : encode (.gflog a) = BitVec.ofNat 32 (0x04000000 + a.toNat) := by
  rw [encode, ← BitVec.ofNat_toNat]
  exact ofNat_or_ofNat 8 (by decide) a.isLt

theorem encode_rsgen {ec : Nat} (hec : ec < 2 ^ 6) :
    encode (.rsgen ec) = BitVec.ofNat 32 (0x20000000 + ec) :=
  ofNat_or_ofNat 6 (by decide) hec

theorem encode_rsenc {len ec : Nat} (hlen : len < 2 ^ 8) (hec : ec < 2 ^ 6) :
    encode (.rsenc len ec) = BitVec.ofNat 32 (0x21000000 + len * 2 ^ 8 + ec) :=
  ofNat_or_or_ofNat 8 (by decide) (by decide) (by omega) (by omega)

theorem encode_applymask (m : BitVec 3) :
    encode (.applymask m) = BitVec.ofNat 32 (0x40000000 + m.toNat) := by
  rw [encode, ← BitVec.ofNat_toNat]
  exact ofNat_or_ofNat 3 (by decide) m.isLt

theorem encode_fmtbits (l : BitVec 2) (m : BitVec 3) :
    encode (.fmtbits l m) = BitVec.ofNat 32 (0x50000000 + l.toNat * 2 ^ 3 + m.toNat) := by
  rw [encode, ← BitVec.ofNat_toNat, ← BitVec.ofNat_toNat]
  exact ofNat_or_or_ofNat 3 (by decide) (by decide) (by omega) m.isLt

theorem encode_verbits {v : Nat} (hv : v < 2 ^ 6) :
    encode (.verbits v) = BitVec.ofNat 32 (0x51000000 + v) :=
  ofNat_or_ofNat 6 (by decide) hv

/-! ### Reading the fields back -/

theorem field_ofNat {n : Nat} (hn : n < 2 ^ 32) (hi lo : Nat) :
    field (BitVec.ofNat 32 n) hi lo = n / 2 ^ lo % 2 ^ (hi + 1 - lo) := by
  rw [field, BitVec.toNat_ofNat, Nat.mod_eq_of_lt hn]

/-- An operand held as a bit vector, read from its field. -/
theorem ofNat_field {k n : Nat} (hn : n < 2 ^ 32) {hi lo : Nat} {a : BitVec k}
    (h : n / 2 ^ lo % 2 ^ (hi + 1 - lo) = a.toNat) :
    BitVec.ofNat k (field (BitVec.ofNat 32 n) hi lo) = a := by
  rw [field_ofNat hn, h, BitVec.ofNat_toNat, BitVec.setWidth_eq]

/-- Every command has a row, and the row assembles the command's own operands from its word. -/
theorem exists_row_build_encode (i : Instr) :
    ∃ r ∈ opcodeTable, r.mnemonic = i.mnemonic ∧ (i.wellFormed = true → r.build (encode i) = i) := by
  cases i with
  | nop => exact ⟨opcodeTable[0], List.getElem_mem _, rfl, fun _ => rfl⟩
  | gfmul a b =>
    refine ⟨opcodeTable[1], List.getElem_mem _, rfl, fun _ => ?_⟩
    rw [encode_gfmul]
    exact congrArg₂ Instr.gfmul (ofNat_field (by omega) (by omega)) (ofNat_field (by omega) (by omega))
  | gfpow a e =>
    refine ⟨opcodeTable[2], List.getElem_mem _, rfl, fun h => ?_⟩
    have he : e < 2 ^ 16 := by simpa [Instr.wellFormed] using h
    rw [encode_gfpow a he]
    exact congrArg₂ Instr.gfpow (ofNat_field (by omega) (by omega))
      ((field_ofNat (by omega) _ _).trans (by omega))
  | gfexp i =>
    refine ⟨opcodeTable[3], List.getElem_mem _, rfl, fun h => ?_⟩
    have hi : i < 2 ^ 9 := by simpa [Instr.wellFormed] using h
    rw [encode_gfexp hi]
    exact congrArg Instr.gfexp ((field_ofNat (by omega) _ _).trans (by omega))
  | gflog a =>
    refine ⟨opcodeTable[4], List.getElem_mem _, rfl, fun _ => ?_⟩
    rw [encode_gflog]
    exact congrArg Instr.gflog (ofNat_field (by omega) (by omega))
  | select => exact ⟨opcodeTable[5], List.getElem_mem _, rfl, fun _ => rfl⟩
  | pack => exact ⟨opcodeTable[6], List.getElem_mem _, rfl, fun _ => rfl⟩
  | rsgen ec =>
    refine ⟨opcodeTable[7], List.getElem_mem _, rfl, fun h => ?_⟩
    have hec : ec < 2 ^ 6 := by simpa [Instr.wellFormed] using h
    rw [encode_rsgen hec]
    exact congrArg Instr.rsgen ((field_ofNat (by omega) _ _).trans (by omega))
  | rsenc len ec =>
    refine ⟨opcodeTable[8], List.getElem_mem _, rfl, fun h => ?_⟩
    have ⟨hlen, hec⟩ : len < 2 ^ 8 ∧ ec < 2 ^ 6 := by simpa [Instr.wellFormed] using h
    rw [encode_rsenc hlen hec]
    exact congrArg₂ Instr.rsenc ((field_ofNat (by omega) _ _).trans (by omega))
      ((field_ofNat (by omega) _ _).trans (by omega))
  | ecenc => exact ⟨opcodeTable[9], List.getElem_mem _, rfl, fun _ => rfl⟩
  | buildstruct => exact ⟨opcodeTable[10], List.getElem_mem _, rfl, fun _ => rfl⟩
  | placedata => exact ⟨opcodeTable[11], List.getElem_mem _, rfl, fun _ => rfl⟩
  | applymask m =>
    refine ⟨opcodeTable[12], List.getElem_mem _, rfl, fun _ => ?_⟩
    rw [encode_applymask]
    exact congrArg Instr.applymask (ofNat_field (by omega) (by omega))
  | score => exact ⟨opcodeTable[13], List.getElem_mem _, rfl, fun _ => rfl⟩
  | selectmask => exact ⟨opcodeTable[14], List.getElem_mem _, rfl, fun _ => rfl⟩
  | fmtbits l m =>
    refine ⟨opcodeTable[15], List.getElem_mem _, rfl, fun _ => ?_⟩
    rw [encode_fmtbits]
    exact congrArg₂ Instr.fmtbits (ofNat_field (by omega) (by omega)) (ofNat_field (by omega) (by omega))
  | verbits v =>
    refine ⟨opcodeTable[16], List.getElem_mem _, rfl, fun h => ?_⟩
    have hv : v < 2 ^ 6 := by simpa [Instr.wellFormed] using h
    rw [encode_verbits hv]
    exact congrArg Instr.verbits ((field_ofNat (by omega) _ _).trans (by omega))
  | writefmt => exact ⟨opcodeTable[17], List.getElem_mem _, rfl, fun _ => rfl⟩
  | writever => exact ⟨opcodeTable[18], List.getElem_mem _, rfl, fun _ => rfl⟩
  | encode => exact ⟨opcodeTable[19], List.getElem_mem _, rfl, fun _ => rfl⟩

/-- The row of a command's mnemonic matches the command's word. -/
theorem encode_matches_row (i : Instr) : Laws.Encoded.Statement i :=
  match i with
  | .nop => Laws.Encoded.nop
  | .gfmul a b => Laws.Encoded.gfmul a b
  | .gfpow a e => Laws.Encoded.gfpow a e
  | .gfexp i => Laws.Encoded.gfexp i
  | .gflog a => Laws.Encoded.gflog a
  | .select => Laws.Encoded.select
  | .pack => Laws.Encoded.pack
  | .rsgen ec => Laws.Encoded.rsgen ec
  | .rsenc len ec => Laws.Encoded.rsenc len ec
  | .ecenc => Laws.Encoded.ecenc
  | .buildstruct => Laws.Encoded.buildstruct
  | .placedata => Laws.Encoded.placedata
  | .applymask m => Laws.Encoded.applymask m
  | .score => Laws.Encoded.score
  | .selectmask => Laws.Encoded.selectmask
  | .fmtbits l m => Laws.Encoded.fmtbits l m
  | .verbits v => Laws.Encoded.verbits v
  | .writefmt => Laws.Encoded.writefmt
  | .writever => Laws.Encoded.writever
  | .encode => Laws.Encoded.encode

theorem decode_encode {i : Instr} (hi : i.wellFormed = true) : decode (encode i) = .ok i := by
  obtain ⟨r, hr, hm, hbuild⟩ := exists_row_build_encode i
  obtain ⟨row, hrow, hrm, hmatch⟩ := encode_matches_row i hi
  obtain ⟨r', hr', rfl⟩ := mem_opcodeMap_iff.mp hrow
  obtain rfl : r' = r := opcodeTable_eq_of_mnemonic hr' hr (hrm.trans hm.symm)
  rw [decode_of_hit hr (OpRow.hit_iff.mpr hmatch), hbuild hi]

/-! ### The word of a command that was decoded -/

/-- Every format but the one without operands has one row (R103). -/
theorem opcodeTable_eq_of_format {r r' : OpRow} (hr : r ∈ opcodeTable) (hr' : r' ∈ opcodeTable)
    {f : Format} (h : r.format = f) (h' : r'.format = f) (hf : f ≠ .n) : r = r' := by
  have hone : ∀ r ∈ opcodeTable, ∀ r' ∈ opcodeTable, r.format = r'.format → r.format ≠ .n →
      r.opc = r'.opc := by decide +kernel
  exact opcodeTable_eq_of_opc hr hr' (hone r hr r' hr' (h.trans h'.symm) (h.trans_ne hf))

theorem build_of_no_operands (w : Word) : ∀ r ∈ opcodeTable, r.format = .n →
    (r.build w).wellFormed = true ∧ encode (r.build w) = r.matchWord := by
  simp [opcodeTable, opcodeRowsLow, opcodeRowsHigh, Instr.wellFormed, encode]

/-- The row that a word hits assembles operands that fit, and their word is the word itself: the fields of
the row's format and the bits its mask fixes are all its bits. -/
theorem encode_build_of_hit {r : OpRow} (hr : r ∈ opcodeTable) {w : Word} (h : r.hit w = true) :
    (r.build w).wellFormed = true ∧ encode (r.build w) = w := by
  rw [OpRow.hit_iff] at h
  cases hf : r.format with
  | n =>
    obtain ⟨hwf, henc⟩ := build_of_no_operands w r hr hf
    have hw : w &&& Format.n.mask = r.matchWord := hf ▸ h
    exact ⟨hwf, henc.trans (hw.symm.trans BitVec.and_allOnes)⟩
  | ab =>
    obtain rfl : r = opcodeTable[1] := opcodeTable_eq_of_format hr (List.getElem_mem _) hf rfl nofun
    have hhigh : field w 31 16 = 0x0100 := field_of_match h (by decide)
    refine ⟨rfl, (encode_gfmul _ _).trans (word_eq_ofNat ?_).symm⟩
    simp only [BitVec.toNat_ofNat, field] at *
    omega
  | ae =>
    obtain rfl : r = opcodeTable[2] := opcodeTable_eq_of_format hr (List.getElem_mem _) hf rfl nofun
    have hhigh : field w 31 24 = 0x02 := field_of_match h (by decide)
    refine ⟨decide_eq_true (field_lt w 15 0),
      (encode_gfpow _ (field_lt w 15 0)).trans (word_eq_ofNat ?_).symm⟩
    simp only [BitVec.toNat_ofNat, field] at *
    omega
  | i9 =>
    obtain rfl : r = opcodeTable[3] := opcodeTable_eq_of_format hr (List.getElem_mem _) hf rfl nofun
    have hhigh : field w 31 9 = 0x018000 := field_of_match h (by decide)
    refine ⟨decide_eq_true (field_lt w 8 0), (encode_gfexp (field_lt w 8 0)).trans (word_eq_ofNat ?_).symm⟩
    unfold field at *
    omega
  | a8 =>
    obtain rfl : r = opcodeTable[4] := opcodeTable_eq_of_format hr (List.getElem_mem _) hf rfl nofun
    have hhigh : field w 31 8 = 0x040000 := field_of_match h (by decide)
    refine ⟨rfl, (encode_gflog _).trans (word_eq_ofNat ?_).symm⟩
    simp only [BitVec.toNat_ofNat, field] at *
    omega
  | ec =>
    obtain rfl : r = opcodeTable[7] := opcodeTable_eq_of_format hr (List.getElem_mem _) hf rfl nofun
    have hhigh : field w 31 6 = 0x0800000 := field_of_match h (by decide)
    refine ⟨decide_eq_true (field_lt w 5 0), (encode_rsgen (field_lt w 5 0)).trans (word_eq_ofNat ?_).symm⟩
    unfold field at *
    omega
  | lec =>
    obtain rfl : r = opcodeTable[8] := opcodeTable_eq_of_format hr (List.getElem_mem _) hf rfl nofun
    have hhigh : field w 31 16 = 0x2100 := field_of_match h (by decide)
    have hmid : field w 7 6 = 0 := field_of_match h (by decide)
    refine ⟨Bool.and_eq_true_iff.mpr ⟨decide_eq_true (field_lt w 15 8), decide_eq_true (field_lt w 5 0)⟩,
      (encode_rsenc (field_lt w 15 8) (field_lt w 5 0)).trans (word_eq_ofNat ?_).symm⟩
    unfold field at *
    omega
  | m =>
    obtain rfl : r = opcodeTable[12] := opcodeTable_eq_of_format hr (List.getElem_mem _) hf rfl nofun
    have hhigh : field w 31 3 = 0x8000000 := field_of_match h (by decide)
    refine ⟨rfl, (encode_applymask _).trans (word_eq_ofNat ?_).symm⟩
    simp only [BitVec.toNat_ofNat, field] at *
    omega
  | lm =>
    obtain rfl : r = opcodeTable[15] := opcodeTable_eq_of_format hr (List.getElem_mem _) hf rfl nofun
    have hhigh : field w 31 5 = 0x2800000 := field_of_match h (by decide)
    refine ⟨rfl, (encode_fmtbits _ _).trans (word_eq_ofNat ?_).symm⟩
    simp only [BitVec.toNat_ofNat, field] at *
    omega
  | v =>
    obtain rfl : r = opcodeTable[16] := opcodeTable_eq_of_format hr (List.getElem_mem _) hf rfl nofun
    have hhigh : field w 31 6 = 0x1440000 := field_of_match h (by decide)
    refine ⟨decide_eq_true (field_lt w 5 0),
      (encode_verbits (field_lt w 5 0)).trans (word_eq_ofNat ?_).symm⟩
    unfold field at *
    omega

theorem decoded_wellFormed_encode {w : Word} {i : Instr} (h : decode w = .ok i) :
    i.wellFormed = true ∧ encode i = w := by
  obtain ⟨r, hr, hhit, rfl⟩ := decode_eq_ok_iff.mp h
  exact encode_build_of_hit hr hhit

/-- A word with the value of a command's word decodes to the command. -/
theorem decode_of_toNat {w : Word} {i : Instr} {n : Nat} (hi : i.wellFormed = true)
    (henc : encode i = BitVec.ofNat 32 n) (hw : w.toNat = n) : decode w = .ok i := by
  rw [word_eq_ofNat hw, ← henc, decode_encode hi]

end Sys2Proof
end

namespace Sys2Proof.Proofs

open Sys2Proof.Machine

/-- Settles O1: the row of the command's mnemonic matches its word and reads its operands back. -/
theorem decodeOfEncodeIsTheCommand : Obligations.DecodeOfEncodeIsTheCommand :=
  fun _ hi => decode_encode hi

/-- Settles O2: the row a word hits is, with the operands read by it, the whole word. -/
theorem encodeOfDecodeIsTheWord : Obligations.EncodeOfDecodeIsTheWord :=
  fun _ _ h => decoded_wellFormed_encode h

/-- Settles O3: no two rows have the same opcode or the same mnemonic. -/
theorem wordsDecodeByMaskAndMatch : Obligations.WordsDecodeByMaskAndMatch := by
  refine ⟨fun w row hrow => match_iff_decode hrow w,
    fun w row₁ h₁ row₂ h₂ => opcodeMap_eq_of_match h₁ h₂, fun i => ?_⟩
  obtain ⟨row, hrow, hm⟩ := List.mem_map.mp (mnemonic_mem_opcodeMap i)
  exact ⟨row, hrow, hm, fun row' hrow' hm' => opcodeMap_eq_of_mnemonic hrow' hrow (hm'.trans hm.symm)⟩

/-- Settles O4: a word that decodes has a row, and every row's opcode is a listed one. -/
theorem unmatchedWordsAreIllegalCommands : Obligations.UnmatchedWordsAreIllegalCommands := by
  refine ⟨fun w h => ?_, fun w hw row hrow h => listedOpcode_of_match hrow h hw⟩
  obtain ⟨e, he⟩ := decode_error_of_unmatched h
  refine ⟨⟨e, he⟩, fun s hs hcmd => ?_⟩
  subst hcmd
  rw [step_due hs, engine_illegal he, raise_eq, State.failed]

/-- Settles O5: the fields side by side have the value of the command's word. -/
theorem operandsStandInTheirFields : Obligations.OperandsStandInTheirFields := by
  refine ⟨fun a b => decode_of_toNat rfl (encode_gfmul a b) ?_,
    fun a e => decode_of_toNat (decide_eq_true e.isLt) (encode_gfpow a e.isLt) ?_,
    fun i => decode_of_toNat (decide_eq_true i.isLt) (encode_gfexp i.isLt) ?_,
    fun a => decode_of_toNat rfl (encode_gflog a) ?_,
    fun ec => decode_of_toNat (decide_eq_true ec.isLt) (encode_rsgen ec.isLt) ?_,
    fun len ec => decode_of_toNat
      (Bool.and_eq_true_iff.mpr ⟨decide_eq_true len.isLt, decide_eq_true ec.isLt⟩)
      (encode_rsenc len.isLt ec.isLt) ?_,
    fun m => decode_of_toNat rfl (encode_applymask m) ?_,
    fun l m => decode_of_toNat rfl (encode_fmtbits l m) ?_,
    fun v => decode_of_toNat (decide_eq_true v.isLt) (encode_verbits v.isLt) ?_⟩ <;>
  · simp only [append_toNat, BitVec.toNat_ofNat]
    omega

/-- Settles O6: each command's word is computed from its operands. -/
theorem specWordsDecodeToTheirCommands : Obligations.SpecWordsDecodeToTheirCommands :=
  ⟨decode_encode (i := .nop) rfl, decode_encode (i := .gfmul 0x53 0xCA) rfl,
    decode_encode (i := .gfpow 2 8) rfl, decode_encode (i := .gfexp 254) rfl,
    decode_encode (i := .pack) rfl, decode_encode (i := .rsenc 1 7) rfl,
    decode_encode (i := .placedata) rfl, decode_encode (i := .applymask 6) rfl,
    decode_encode (i := .fmtbits 2 6) rfl, decode_encode (i := .verbits 7) rfl,
    decode_encode (i := .encode) rfl⟩

end Sys2Proof.Proofs

section
/-! PROOFS. The assembler's lines and numbers (30_encoding.md R106): which operands a line gives back, and
which number a digit string denotes. -/

namespace Sys2Proof.Machine

/-! ### Operands of a line -/

/-- An operand as it stands in a line: some characters, none of them a blank or a comma. -/
structure IsOperand (x : List Char) : Prop where
  ne_nil : x ≠ []
  no_blank : ∀ c ∈ x, c ≠ ' '
  no_comma : ∀ c ∈ x, c ≠ ','

theorem commaPieces_cons_of_ne {c : Char} (hc : c ≠ ',') {cs p : List Char} {ps : List (List Char)}
    (h : commaPieces cs = p :: ps) : commaPieces (c :: cs) = (c :: p) :: ps := by
  rw [commaPieces] at h
  rw [commaPieces, List.foldr_cons, h, if_neg hc]

theorem commaPieces_of_no_comma {p : List Char} (hp : ∀ c ∈ p, c ≠ ',') : commaPieces p = [p] := by
  induction p with
  | nil => rfl
  | cons c cs ih =>
    rw [List.forall_mem_cons] at hp
    exact commaPieces_cons_of_ne hp.1 (ih hp.2)

theorem commaPieces_append_comma {p : List Char} (hp : ∀ c ∈ p, c ≠ ',') (cs : List Char) :
    commaPieces (p ++ ',' :: cs) = p :: commaPieces cs := by
  induction p with
  | nil => rfl
  | cons c cs ih =>
    rw [List.forall_mem_cons] at hp
    exact commaPieces_cons_of_ne hp.1 (ih hp.2)

theorem dropWhile_blank_of_no_blank {x : List Char} (hx : ∀ c ∈ x, c ≠ ' ') :
    x.dropWhile (fun c => c == ' ') = x := by
  cases x with
  | nil => rfl
  | cons c cs => simp [hx c List.mem_cons_self]

theorem trimBlanks_cons_blank {x : List Char} (hx : ∀ c ∈ x, c ≠ ' ') : trimBlanks (' ' :: x) = x := by
  rw [trimBlanks, List.dropWhile_cons_of_pos rfl, dropWhile_blank_of_no_blank hx,
    dropWhile_blank_of_no_blank (by simpa using hx), List.reverse_reverse]

/-- The pieces of the operands' part of a line are the operands, each behind its blank. -/
theorem commaPieces_operands {ops : List (List Char)} (hne : ops ≠ []) (h : ∀ x ∈ ops, IsOperand x) :
    commaPieces (' ' :: (ops.intersperse [',', ' ']).flatten) = ops.map (' ' :: ·) := by
  have no_comma : ∀ x ∈ ops, ∀ c ∈ ' ' :: x, c ≠ ',' := fun x hx =>
    List.forall_mem_cons.mpr ⟨by decide, (h x hx).no_comma⟩
  induction ops with
  | nil => exact absurd rfl hne
  | cons x xs ih =>
    rw [List.forall_mem_cons] at h no_comma
    cases xs with
    | nil => simpa using commaPieces_of_no_comma no_comma.1
    | cons y ys =>
      have htail := ih (List.cons_ne_nil y ys) h.2 no_comma.2
      simpa [htail] using commaPieces_append_comma no_comma.1
        (' ' :: ((y :: ys).intersperse [',', ' ']).flatten)

theorem lineMnemonic_sourceLine {m : String} (hm : ∀ c ∈ m.toList, c ≠ ' ') (ops : List (List Char)) :
    lineMnemonic (sourceLine m ops) = m := by
  rw [lineMnemonic, sourceLine, List.append_assoc, List.takeWhile_append_of_pos (by simpa using hm)]
  simp

theorem lineOperands_sourceLine {m : String} (hm : ∀ c ∈ m.toList, c ≠ ' ') {ops : List (List Char)}
    (hne : ops ≠ []) (h : ∀ x ∈ ops, IsOperand x) : lineOperands (sourceLine m ops) = ops := by
  have hrest : (sourceLine m ops).dropWhile (fun c => c != ' ') =
      ' ' :: (ops.intersperse [',', ' ']).flatten := by
    rw [sourceLine, List.append_assoc, List.dropWhile_append_of_pos (by simpa using hm)]
    rfl
  have hall : ((' ' :: (ops.intersperse [',', ' ']).flatten).all fun c => c == ' ') = false := by
    obtain ⟨x, xs, rfl⟩ := List.exists_cons_of_ne_nil hne
    obtain ⟨hx, hb, -⟩ := h x List.mem_cons_self
    obtain ⟨c, cs, rfl⟩ := List.exists_cons_of_ne_nil hx
    refine List.all_eq_false.mpr ⟨c, ?_, by simpa using hb c List.mem_cons_self⟩
    cases xs <;> simp
  have htrim : ∀ x ∈ ops, (trimBlanks ∘ (' ' :: ·)) x = id x := fun x hx =>
    trimBlanks_cons_blank (h x hx).no_blank
  rw [lineOperands, hrest, hall, commaPieces_operands hne h, List.map_map, List.map_congr_left htrim]
  exact List.map_id ops

theorem assemble_sourceLine {m : String} (hm : ∀ c ∈ m.toList, c ≠ ' ') {ops : List (List Char)}
    (hne : ops ≠ []) (h : ∀ x ∈ ops, IsOperand x) :
    assemble (sourceLine m ops) = ((assembleInstr m ops).filter Instr.wellFormed).map encode := by
  rw [assemble, lineMnemonic_sourceLine hm, lineOperands_sourceLine hm hne h]

/-! ### Numbers -/

/-- One more digit read behind the number read so far. -/
def pushDigit (radix : Nat) (acc : Option Nat) (c : Char) : Option Nat :=
  acc.bind fun n => (digitValue radix c).map fun d => n * radix + d

theorem digitsValue_of_ne_nil {radix : Nat} {cs : List Char} (h : cs ≠ []) :
    digitsValue radix cs = cs.foldl (pushDigit radix) (some 0) := by
  rw [digitsValue, if_neg (by simpa using h)]
  rfl

theorem foldl_pushDigit_none (radix : Nat) (cs : List Char) : cs.foldl (pushDigit radix) none = none := by
  induction cs with
  | nil => rfl
  | cons c cs ih => exact ih

/-- A string that has a number consists of digits. -/
theorem digit_of_foldl_pushDigit {radix : Nat} {cs : List Char} {acc : Option Nat} {n : Nat}
    (h : cs.foldl (pushDigit radix) acc = some n) : ∀ c ∈ cs, (digitValue radix c).isSome = true := by
  induction cs generalizing acc with
  | nil => simp
  | cons c cs ih =>
    refine List.forall_mem_cons.mpr ⟨?_, ih h⟩
    by_contra hc
    have hpush : pushDigit radix acc c = none := by
      cases acc <;> simp [pushDigit, Option.not_isSome_iff_eq_none.mp hc]
    rw [List.foldl_cons, hpush, foldl_pushDigit_none] at h
    cases h

theorem ne_blank_comma_of_digit {radix : Nat} (hr : radix ≤ 16) {c : Char}
    (h : (digitValue radix c).isSome = true) : c ≠ ' ' ∧ c ≠ ',' := by
  constructor <;>
  · rintro rfl
    simp [digitValue] at h
    omega

theorem isOperand_of_digitsValue {radix : Nat} (hr : radix ≤ 16) {cs : List Char} {n : Nat}
    (h : digitsValue radix cs = some n) : IsOperand cs := by
  have hne : cs ≠ [] := by
    rintro rfl
    cases h
  rw [digitsValue_of_ne_nil hne] at h
  have hdigit := fun c hc => ne_blank_comma_of_digit hr (digit_of_foldl_pushDigit h c hc)
  exact ⟨hne, fun c hc => (hdigit c hc).1, fun c hc => (hdigit c hc).2⟩

theorem isOperand_of_numberValue {x : List Char} {a : Nat} (h : numberValue x = some a) : IsOperand x := by
  unfold numberValue at h
  split at h
  case _ cs =>
    obtain ⟨-, hb, hc⟩ := isOperand_of_digitsValue (by decide) h
    exact ⟨List.cons_ne_nil _ _, by simpa using hb, by simpa using hc⟩
  case _ => exact isOperand_of_digitsValue (by decide) h

theorem digitValue_digitChar : ∀ radix ≤ 16, ∀ d < radix, digitValue radix d.digitChar = some d := by
  decide

/-- The digits of n in a radix that has them all read as n. -/
theorem foldl_pushDigit_toDigits {radix : Nat} (h1 : 1 < radix) (h16 : radix ≤ 16) (n : Nat) :
    (Nat.toDigits radix n).foldl (pushDigit radix) (some 0) = some n := by
  induction n using Nat.strongRecOn with
  | ind n ih =>
    by_cases hn : n < radix
    · rw [Nat.toDigits_of_lt_base hn]
      simp [pushDigit, digitValue_digitChar radix h16 n hn]
    · have hlast := digitValue_digitChar radix h16 (n % radix) (Nat.mod_lt _ (by omega))
      rw [Nat.toDigits_of_base_le h1 (by omega), List.foldl_append,
        ih (n / radix) (Nat.div_lt_self (by omega) h1)]
      simp [pushDigit, hlast, Nat.div_add_mod']

theorem digitsValue_toDigits {radix : Nat} (h1 : 1 < radix) (h16 : radix ≤ 16) (n : Nat) :
    digitsValue radix (Nat.toDigits radix n) = some n := by
  rw [digitsValue_of_ne_nil Nat.toDigits_ne_nil, foldl_pushDigit_toDigits h1 h16]

theorem numberValue_toDigits_ten (n : Nat) : numberValue (Nat.toDigits 10 n) = some n := by
  have hval : digitsValue 10 (Nat.toDigits 10 n) = some n := digitsValue_toDigits (by decide) (by decide) n
  unfold numberValue
  split
  case _ cs hx =>
    have hmem : 'x' ∈ Nat.toDigits 10 n := by simp [hx]
    cases Nat.isDigit_of_mem_toDigits (by decide) (by decide) hmem
  case _ => exact hval

theorem numberValue_toDigits_sixteen (n : Nat) :
    numberValue ('0' :: 'x' :: Nat.toDigits 16 n) = some n :=
  digitsValue_toDigits (by decide) (by decide) n

/-! ### Levels -/

theorem isOperand_singleton {c : Char} (hb : c ≠ ' ') (hc : c ≠ ',') : IsOperand [c] :=
  ⟨List.cons_ne_nil _ _, by simpa using hb, by simpa using hc⟩

theorem isOperand_of_denotesLevel {x : List Char} {l : Nat} (h : denotesLevel x l) : IsOperand x := by
  rcases h with ⟨rfl, -⟩ | ⟨rfl, -⟩ | ⟨rfl, -⟩ | ⟨rfl, -⟩ | h
  case inr.inr.inr.inr => exact isOperand_of_numberValue h
  all_goals exact isOperand_singleton (by decide) (by decide)

/-- A level is its letter's index or its number: no letter is a number. -/
theorem levelValue_of_denotesLevel {x : List Char} {l : Nat} (h : denotesLevel x l) :
    levelValue x = some l := by
  rcases h with ⟨rfl, rfl⟩ | ⟨rfl, rfl⟩ | ⟨rfl, rfl⟩ | ⟨rfl, rfl⟩ | h
  case inr.inr.inr.inr =>
    unfold levelValue
    split
    case h_5 => exact h
    all_goals cases h
  all_goals rfl

end Sys2Proof.Machine
end

section
/-! PROOFS. What the assembler answers for a mnemonic and its operands (30_encoding.md R106). -/

namespace Sys2Proof.Machine

/-- One test of a mnemonic in the assembler's chain of them. -/
theorem mnemonic_of_ite {m s : String} {i j : Instr} {rest : Option Instr}
    (h : (if m = s then some j else rest) = some i) (hj : j.mnemonic = s)
    (hrest : rest = some i → i.mnemonic = m) : i.mnemonic = m := by
  split at h
  case isTrue hm =>
    cases h
    exact hj.trans hm.symm
  case isFalse => exact hrest h

/-- The command an accepted line stands for has the line's mnemonic. -/
theorem mnemonic_of_assembleInstr {m : String} {ops : List (List Char)} {i : Instr}
    (h : assembleInstr m ops = some i) : i.mnemonic = m := by
  unfold assembleInstr at h
  split at h
  · iterate 11 refine mnemonic_of_ite h rfl fun h => ?_
    cases h
  · obtain ⟨a, -, h⟩ := Option.bind_eq_some_iff.mp h
    split_ifs at h with hgfexp hgflog hrsgen happlymask hverbits
    · cases h; exact hgfexp.symm
    · obtain ⟨p, -, rfl⟩ := Option.map_eq_some_iff.mp h; exact hgflog.symm
    · cases h; exact hrsgen.symm
    · obtain ⟨p, -, rfl⟩ := Option.map_eq_some_iff.mp h; exact happlymask.symm
    · cases h; exact hverbits.symm
  · split_ifs at h with hfmtbits hgfmul hgfpow hrsenc <;>
      simp only [Option.bind_eq_some_iff, Option.map_eq_some_iff, Option.some.injEq, reduceCtorEq, and_false,
        exists_false] at h
    · obtain ⟨l, -, p, -, rfl⟩ := h; exact hfmtbits.symm
    · obtain ⟨a, -, b, -, p, -, q, -, rfl⟩ := h; exact hgfmul.symm
    · obtain ⟨a, -, b, -, p, -, rfl⟩ := h; exact hgfpow.symm
    · obtain ⟨a, -, b, -, rfl⟩ := h; exact hrsenc.symm
  · cases h

/-- A word of the assembler is the word of a command whose operands fit. -/
theorem exists_instr_of_assemble {line : List Char} {w : Word} (h : assemble line = some w) :
    ∃ i, i.wellFormed = true ∧ encode i = w ∧ decode w = .ok i := by
  obtain ⟨i, hi, rfl⟩ := Option.map_eq_some_iff.mp h
  have hwf := (Option.filter_eq_some_iff.mp hi).2
  exact ⟨i, hwf, rfl, decode_encode hwf⟩

theorem toNat_ofNat_of_lt {w n : Nat} (h : n < 2 ^ w) : (BitVec.ofNat w n).toNat = n := by
  rw [BitVec.toNat_ofNat, Nat.mod_eq_of_lt h]

theorem fitted_map {α : Type} {w : Nat} (f : BitVec w → α) (a : Nat) :
    (fitted w a).map f = if a < 2 ^ w then some (f (BitVec.ofNat w a)) else none := by
  unfold fitted
  split <;> rfl

theorem fitted_bind_map {α : Type} {v w : Nat} (f : BitVec v → BitVec w → α) (a b : Nat) :
    ((fitted v a).bind fun p => (fitted w b).map (f p)) =
      if a < 2 ^ v ∧ b < 2 ^ w then some (f (BitVec.ofNat v a) (BitVec.ofNat w b)) else none := by
  by_cases ha : a < 2 ^ v
  · simp [fitted, ha]
  · simp [fitted, ha]

/-- A line whose operands denote the command `i` when those of a typed field fit (Q): the assembler emits its
word when all of them fit (P), and no word when one does not. -/
theorem assemble_eq_ite {m : String} {ops : List (List Char)} {Q P : Prop} [Decidable Q] [Decidable P]
    {i : Instr} {w : Word} (hm : ∀ c ∈ m.toList, c ≠ ' ') (hne : ops ≠ [])
    (hops : ∀ x ∈ ops, IsOperand x) (hi : assembleInstr m ops = if Q then some i else none) (hP : Q ∧ i.wellFormed = true ↔ P)
    (hw : P → encode i = w) : assemble (sourceLine m ops) = if P then some w else none := by
  rw [assemble_sourceLine hm hne hops, hi]
  by_cases hp : P
  · obtain ⟨hq, hwf⟩ := hP.mpr hp
    rw [if_pos hq, if_pos hp, Option.filter_some, if_pos hwf, Option.map_some, hw hp]
  · rw [if_neg hp]
    split
    case isTrue hq =>
      rw [Option.filter_some, if_neg fun hwf => hp (hP.mp ⟨hq, hwf⟩), Option.map_none]
    case isFalse => rfl

/-! ### One operand -/

section
variable {x : List Char} {a : Nat} (hx : numberValue x = some a)
include hx

theorem operand_of_numberValue : ∀ z ∈ [x], IsOperand z :=
  List.forall_mem_singleton.mpr (isOperand_of_numberValue hx)

theorem assemble_gfexp : assemble (sourceLine "GFEXP" [x]) =
    if a < 2 ^ 9 then some (BitVec.ofNat 32 (0x03000000 + a)) else none :=
  assemble_eq_ite (Q := True) (i := .gfexp a) (by simp) (List.cons_ne_nil _ _) (operand_of_numberValue hx)
    (by simp [assembleInstr, hx]) (by simp [Instr.wellFormed]) encode_gfexp

theorem assemble_gflog : assemble (sourceLine "GFLOG" [x]) =
    if a < 2 ^ 8 then some (BitVec.ofNat 32 (0x04000000 + a)) else none :=
  assemble_eq_ite (Q := a < 2 ^ 8) (i := .gflog (BitVec.ofNat 8 a)) (by simp) (List.cons_ne_nil _ _)
    (operand_of_numberValue hx) (by simp [assembleInstr, hx, fitted_map]) (by simp [Instr.wellFormed])
    fun ha => by rw [encode_gflog, toNat_ofNat_of_lt ha]

theorem assemble_rsgen : assemble (sourceLine "RSGEN" [x]) =
    if a < 2 ^ 6 then some (BitVec.ofNat 32 (0x20000000 + a)) else none :=
  assemble_eq_ite (Q := True) (i := .rsgen a) (by simp) (List.cons_ne_nil _ _) (operand_of_numberValue hx)
    (by simp [assembleInstr, hx]) (by simp [Instr.wellFormed]) encode_rsgen

theorem assemble_applymask : assemble (sourceLine "APPLYMASK" [x]) =
    if a < 2 ^ 3 then some (BitVec.ofNat 32 (0x40000000 + a)) else none :=
  assemble_eq_ite (Q := a < 2 ^ 3) (i := .applymask (BitVec.ofNat 3 a)) (by simp) (List.cons_ne_nil _ _)
    (operand_of_numberValue hx) (by simp [assembleInstr, hx, fitted_map]) (by simp [Instr.wellFormed])
    fun ha => by rw [encode_applymask, toNat_ofNat_of_lt ha]

theorem assemble_verbits : assemble (sourceLine "VERBITS" [x]) =
    if a < 2 ^ 6 then some (BitVec.ofNat 32 (0x51000000 + a)) else none :=
  assemble_eq_ite (Q := True) (i := .verbits a) (by simp) (List.cons_ne_nil _ _) (operand_of_numberValue hx)
    (by simp [assembleInstr, hx]) (by simp [Instr.wellFormed]) encode_verbits

end

/-! ### Two operands -/

section
variable {x y : List Char} {a b : Nat} (hx : numberValue x = some a) (hy : numberValue y = some b)
include hx hy

theorem operands_of_numberValue : ∀ z ∈ [x, y], IsOperand z :=
  List.forall_mem_cons.mpr ⟨isOperand_of_numberValue hx, operand_of_numberValue hy⟩

theorem assemble_gfmul : assemble (sourceLine "GFMUL" [x, y]) =
    if a < 2 ^ 8 ∧ b < 2 ^ 8 then some (BitVec.ofNat 32 (0x01000000 + a * 2 ^ 8 + b)) else none :=
  assemble_eq_ite (Q := a < 2 ^ 8 ∧ b < 2 ^ 8) (i := .gfmul (BitVec.ofNat 8 a) (BitVec.ofNat 8 b)) (by simp)
    (List.cons_ne_nil _ _) (operands_of_numberValue hx hy)
    (by simpa [assembleInstr, hx, hy] using fitted_bind_map Instr.gfmul a b) (by simp [Instr.wellFormed])
    fun ⟨ha, hb⟩ => by rw [encode_gfmul, toNat_ofNat_of_lt ha, toNat_ofNat_of_lt hb]

theorem assemble_gfpow : assemble (sourceLine "GFPOW" [x, y]) =
    if a < 2 ^ 8 ∧ b < 2 ^ 16 then some (BitVec.ofNat 32 (0x02000000 + a * 2 ^ 16 + b)) else none :=
  assemble_eq_ite (Q := a < 2 ^ 8) (i := .gfpow (BitVec.ofNat 8 a) b) (by simp)
    (List.cons_ne_nil _ _) (operands_of_numberValue hx hy)
    (by simp [assembleInstr, hx, hy, fitted_map]) (by simp [Instr.wellFormed])
    fun ⟨ha, hb⟩ => by rw [encode_gfpow _ hb, toNat_ofNat_of_lt ha]

theorem assemble_rsenc : assemble (sourceLine "RSENC" [x, y]) =
    if a < 2 ^ 8 ∧ b < 2 ^ 6 then some (BitVec.ofNat 32 (0x21000000 + a * 2 ^ 8 + b)) else none :=
  assemble_eq_ite (Q := True) (i := .rsenc a b) (by simp) (List.cons_ne_nil _ _)
    (operands_of_numberValue hx hy) (by simp [assembleInstr, hx, hy]) (by simp [Instr.wellFormed])
    fun ⟨ha, hb⟩ => encode_rsenc ha hb

end

theorem assemble_fmtbits {x y : List Char} {l m : Nat} (hx : denotesLevel x l) (hy : numberValue y = some m) :
    assemble (sourceLine "FMTBITS" [x, y]) =
      if l < 2 ^ 2 ∧ m < 2 ^ 3 then some (BitVec.ofNat 32 (0x50000000 + l * 2 ^ 3 + m)) else none :=
  assemble_eq_ite (Q := l < 2 ^ 2 ∧ m < 2 ^ 3) (i := .fmtbits (BitVec.ofNat 2 l) (BitVec.ofNat 3 m)) (by simp)
    (List.cons_ne_nil _ _)
    (List.forall_mem_cons.mpr ⟨isOperand_of_denotesLevel hx, operand_of_numberValue hy⟩)
    (by simpa [assembleInstr, levelValue_of_denotesLevel hx, hy] using fitted_bind_map Instr.fmtbits l m)
    (by simp [Instr.wellFormed])
    fun ⟨hl, hm⟩ => by rw [encode_fmtbits, toNat_ofNat_of_lt hl, toNat_ofNat_of_lt hm]

end Sys2Proof.Machine
end

namespace Sys2Proof.Proofs

open Sys2Proof.Machine

/-- Settles O7: a line gives its mnemonic and operands back, and each number is refused exactly when it is
past its field. -/
theorem assemblerEmitsOnlyLegalWords : Obligations.AssemblerEmitsOnlyLegalWords := by
  refine ⟨fun line w h => exists_instr_of_assemble h, fun m ops i h => mnemonic_of_assembleInstr h,
    by decide +kernel, fun x a hx => ?_, fun x y a b hx hy => ?_,
    fun x y l m hx hy => assemble_fmtbits hx hy, fun n => ?_⟩
  · exact ⟨assemble_gfexp hx, assemble_gflog hx, assemble_rsgen hx, assemble_applymask hx, assemble_verbits hx⟩
  · exact ⟨assemble_gfmul hx hy, assemble_gfpow hx hy, assemble_rsenc hx hy⟩
  · exact ⟨numberValue_toDigits_ten n, numberValue_toDigits_sixteen n⟩

end Sys2Proof.Proofs

section
/-! PROOFS. GF(2^8) (40_gf256.md): EXP and LOG are a discrete exponential and logarithm of period 255, so
products and powers of nonzero elements are sums and multiples of exponents; and multiplying by xtime is
multiplying by the element 2, which ties the tables to the shift-and-add product of polynomials. -/

namespace Sys2Proof.Machine

/-! ### The exponential EXP[n mod 255] -/

/-- Every index of the table reads the exponential (R50). -/
theorem gfExp_mod {i : Nat} (hi : i < 512) : gfExp (i % 255) = gfExp i := by
  induction i using Nat.strongRecOn with
  | _ i ih =>
    by_cases hlow : i < 255
    · rw [Nat.mod_eq_of_lt hlow]
    · obtain ⟨j, rfl⟩ := Nat.exists_eq_add_of_le' (Nat.le_of_not_lt hlow)
      rw [Nat.add_mod_right, ih j (by omega) (by omega), Laws.expTable_repeat j (by omega)]

/-- R50's recurrence goes round: EXP[254] steps to EXP[0]. -/
theorem gfExp_mod_succ (n : Nat) : gfExp ((n + 1) % 255) = xtime (gfExp (n % 255)) := by
  by_cases hlast : n % 255 = 254
  · rw [show (n + 1) % 255 = 0 by omega, hlast]
    decide +kernel
  · rw [show (n + 1) % 255 = n % 255 + 1 by omega]
    exact Laws.expRom_step _ (by omega)

theorem repeat_xtime_gfExp_mod (m n : Nat) :
    Nat.repeat xtime n (gfExp (m % 255)) = gfExp ((m + n) % 255) := by
  induction n with
  | zero => rfl
  | succ n ih => rw [Nat.repeat, ih, ← gfExp_mod_succ, Nat.add_assoc]

@[simp] theorem gfLog_gfExp_mod (n : Nat) : gfLog (gfExp (n % 255)) = n % 255 :=
  Laws.log_exp _ (Nat.mod_lt _ (by decide))

@[simp] theorem gfLog_one : gfLog 1#8 = 0 := by
  have h := Laws.log_exp 0 (by decide)
  rwa [Laws.exp_zero] at h

/-- No entry of EXP is 0: LOG[0] is the logarithm of 1 alone. -/
@[simp] theorem gfExp_mod_ne_zero (n : Nat) : gfExp (n % 255) ≠ 0#8 := by
  intro h
  have hn : n % 255 = 0 := (gfLog_gfExp_mod n).symm.trans (h ▸ Laws.log_zero)
  rw [hn, Laws.exp_zero] at h
  exact absurd h (by decide)

theorem gfExp_gfLog_mod {a : Byte} (ha : a ≠ 0) : gfExp (gfLog a % 255) = a := by
  rw [Nat.mod_eq_of_lt (by have := Laws.log_le a; omega), Laws.exp_log a ha]

theorem eq_zero_or_eq_gfExp_mod (a : Byte) : a = 0#8 ∨ ∃ n, a = gfExp (n % 255) :=
  (eq_or_ne a 0).imp_right fun ha => ⟨gfLog a, (gfExp_gfLog_mod ha).symm⟩

/-- LOG[a] is the only index up to 254 at which EXP is a (R51). -/
theorem eq_gfLog_of_gfExp_eq {a : Byte} {i : Nat} (hi : i ≤ 254) (h : gfExp i = a) : i = gfLog a := by
  rw [← h, Laws.log_exp i (by omega)]

/-! ### Products and powers by exponents -/

@[simp] theorem zero_gfmul (a : Byte) : gfmul 0#8 a = 0#8 := if_pos (.inl rfl)

@[simp] theorem gfmul_zero (a : Byte) : gfmul a 0#8 = 0#8 := if_pos (.inr rfl)

theorem gfmul_gfExp_mod (m n : Nat) :
    gfmul (gfExp (m % 255)) (gfExp (n % 255)) = gfExp ((m + n) % 255) := by
  rw [gfmul, if_neg (by simp), gfLog_gfExp_mod, gfLog_gfExp_mod, ← gfExp_mod (by omega), Nat.add_mod m n]

theorem gfpow_gfExp_mod (m e : Nat) : gfpow (gfExp (m % 255)) e = gfExp (m * e % 255) := by
  cases e with
  | zero => exact Laws.exp_zero.symm
  | succ e => simp [gfpow]

theorem gfmul_comm (a b : Byte) : gfmul a b = gfmul b a := by
  simp only [gfmul, or_comm, Nat.add_comm]

theorem gfmul_assoc (a b c : Byte) : gfmul (gfmul a b) c = gfmul a (gfmul b c) := by
  rcases eq_zero_or_eq_gfExp_mod a with rfl | ⟨m, rfl⟩
  · simp
  rcases eq_zero_or_eq_gfExp_mod b with rfl | ⟨n, rfl⟩
  · simp
  rcases eq_zero_or_eq_gfExp_mod c with rfl | ⟨k, rfl⟩
  · simp
  simp only [gfmul_gfExp_mod, Nat.add_assoc]

@[simp] theorem one_gfmul (a : Byte) : gfmul 1#8 a = a := by
  rcases eq_zero_or_eq_gfExp_mod a with rfl | ⟨n, rfl⟩
  · exact gfmul_zero 1
  · have hmul := gfmul_gfExp_mod 0 n
    rwa [Nat.zero_mod, Laws.exp_zero, Nat.zero_add] at hmul

/-- The inverse of a nonzero element is read at the opposite exponent (R137). -/
theorem gfmul_inverse {a : Byte} (ha : a ≠ 0) : gfmul a (gfExp ((255 - gfLog a) % 255)) = 1 := by
  have hlog := Laws.log_le a
  conv_lhs => rw [← gfExp_gfLog_mod ha]
  rw [gfLog_gfExp_mod, gfmul_gfExp_mod, show (gfLog a + (255 - gfLog a % 255)) % 255 = 0 by omega,
    Laws.exp_zero]

@[simp] theorem gfpow_zero (a : Byte) : gfpow a 0 = 1 := rfl

theorem zero_gfpow {e : Nat} (he : 0 < e) : gfpow 0#8 e = 0#8 := by
  simp [gfpow, he.ne']

theorem gfpow_succ (a : Byte) (e : Nat) : gfpow a (e + 1) = gfmul (gfpow a e) a := by
  rcases eq_zero_or_eq_gfExp_mod a with rfl | ⟨n, rfl⟩
  · rw [gfmul_zero, zero_gfpow e.succ_pos]
  · rw [gfpow_gfExp_mod, gfpow_gfExp_mod, gfmul_gfExp_mod, Nat.mul_succ]

/-- The nonzero elements are a group of order 255. -/
theorem gfpow_of_dvd {a : Byte} (ha : a ≠ 0) {e : Nat} (he : 255 ∣ e) : gfpow a e = 1 := by
  rw [← gfExp_gfLog_mod ha, gfpow_gfExp_mod, Nat.mod_eq_zero_of_dvd (he.mul_left _), Laws.exp_zero]

theorem two_gfpow (i : Nat) : gfpow 2 i = gfExp (i % 255) := by
  have htwo : (2 : Byte) = gfExp (1 % 255) := by decide
  rw [htwo, gfpow_gfExp_mod, Nat.one_mul]

/-! ### The shift-and-add product (R137) -/

@[simp] theorem xtime_zero : xtime 0#8 = 0#8 := by decide

/-- A term that a bit selects is selected by a sum of bits in the sum of both selections. -/
theorem ite_xor_bits (p q : Bool) (x : Byte) :
    (if p ^^ q then x else 0) = (if p then x else 0) ^^^ (if q then x else 0) := by
  cases p <;> cases q <;> simp

/-- Shifting and reducing a sum is shifting and reducing each part: its top bit is the sum of theirs. -/
theorem xtime_xor (a b : Byte) : xtime (a ^^^ b) = xtime a ^^^ xtime b := by
  unfold xtime
  rw [BitVec.shiftLeft_xor_distrib, BitVec.getLsbD_xor, ite_xor_bits]
  ac_rfl

/-- xtime on numbers (R50): the doubled value, reduced by 0x11D when it passes 8 bits. -/
theorem xtime_toNat (a : Byte) :
    (xtime a).toNat = (2 * a.toNat ^^^ (if 128 ≤ a.toNat then 0x11D else 0)) % 256 := by
  have htop : a.getLsbD 7 = decide (128 ≤ a.toNat) := BitVec.getLsbD_last a
  have hshift : (a <<< 1).toNat = 2 * a.toNat % 2 ^ 8 := by
    rw [BitVec.toNat_shiftLeft, Nat.shiftLeft_eq, Nat.mul_comm]
  rw [xtime, htop, BitVec.toNat_xor, hshift, show 256 = 2 ^ 8 from rfl, Nat.xor_mod_two_pow]
  by_cases h : 128 ≤ a.toNat <;> simp [h]

theorem shiftMul_xor_right (a b c : Byte) (k : Nat) :
    shiftMul a (b ^^^ c) k = shiftMul a b k ^^^ shiftMul a c k := by
  induction k with
  | zero => exact (BitVec.xor_self (x := 0)).symm
  | succ k ih =>
    simp only [shiftMul, ih, BitVec.getLsbD_xor, ite_xor_bits]
    ac_rfl

@[simp] theorem shiftMul_zero_right (a : Byte) (k : Nat) : shiftMul a 0#8 k = 0#8 := by
  induction k with
  | zero => rfl
  | succ k ih => simp [shiftMul, ih]

theorem shiftMul_one_right (a : Byte) : shiftMul a 1 8 = a := by
  simp [shiftMul, Nat.repeat]

/-- Before the reduction, a shifted factor shifts the product. -/
theorem shiftMul_shiftLeft (a b : Byte) {k : Nat} (hk : k < 8) :
    shiftMul a (b <<< 1) (k + 1) = xtime (shiftMul a b k) := by
  induction k with
  | zero => simp [shiftMul]
  | succ k ih =>
    have hbit : (b <<< 1).getLsbD (k + 1) = b.getLsbD k := by
      rw [BitVec.getLsbD_shiftLeft]
      simp [hk]
    rw [shiftMul, ih (by omega), hbit, shiftMul, xtime_xor, apply_ite xtime]
    rfl

/-- x^8 = x^4 + x^3 + x^2 + 1 modulo 0x11D: eight shifts multiply by 0x1D. -/
theorem repeat_xtime_eight : ∀ a : Byte, Nat.repeat xtime 8 a = shiftMul a 0x1D 8 := by decide +kernel

theorem shiftMul_xtime (a b : Byte) : shiftMul a (xtime b) 8 = xtime (shiftMul a b 8) := by
  have hsplit : shiftMul a b 8 =
      shiftMul a b 7 ^^^ (if b.getLsbD 7 then Nat.repeat xtime 7 a else 0) := rfl
  rw [xtime, shiftMul_xor_right, shiftMul_shiftLeft a b (k := 7) (by decide), hsplit, xtime_xor]
  cases b.getLsbD 7 with
  | false => exact congrArg _ ((shiftMul_zero_right a 8).trans xtime_zero.symm)
  | true => exact congrArg _ (repeat_xtime_eight a).symm

/-- Multiplying by EXP[n] is n shifts. -/
theorem shiftMul_gfExp_mod (a : Byte) (n : Nat) :
    shiftMul a (gfExp (n % 255)) 8 = Nat.repeat xtime n a := by
  induction n with
  | zero => rw [Nat.zero_mod, Laws.exp_zero, shiftMul_one_right, Nat.repeat]
  | succ n ih => rw [gfExp_mod_succ, shiftMul_xtime, ih, Nat.repeat]

@[simp] theorem repeat_xtime_zero (n : Nat) : Nat.repeat xtime n 0#8 = 0#8 := by
  induction n with
  | zero => rfl
  | succ n ih => rw [Nat.repeat, ih, xtime_zero]

/-- The product by the tables is the one by shifting and adding (R137). -/
theorem gfmul_eq_shiftMul (a b : Byte) : gfmul a b = shiftMul a b 8 := by
  rcases eq_zero_or_eq_gfExp_mod b with rfl | ⟨n, rfl⟩
  · rw [gfmul_zero, shiftMul_zero_right]
  rw [shiftMul_gfExp_mod]
  rcases eq_zero_or_eq_gfExp_mod a with rfl | ⟨m, rfl⟩
  · rw [zero_gfmul, repeat_xtime_zero]
  · rw [gfmul_gfExp_mod, repeat_xtime_gfExp_mod]

theorem gfmul_xor (a b c : Byte) : gfmul a (b ^^^ c) = gfmul a b ^^^ gfmul a c := by
  simp only [gfmul_eq_shiftMul, shiftMul_xor_right]

/-! ### The commands -/

/-- A command whose only effect is RESULT completes with that RESULT and nothing else written (R31). -/
theorem scalar_completes (v : Word) (s : State) :
    ∃ t, scalar v s = .next t ∧ s.completedTo t ∧ onlyResult s t ∧ t.result = v :=
  ⟨_, complete_eq _, ⟨rfl, rfl⟩, ⟨rfl, fun _ => rfl⟩, rfl⟩

theorem execGflog_zero (s : State) : execGflog 0 s = .next (s.failed (.plain .badOperand)) :=
  (if_pos rfl).trans (raise_eq _ s)

theorem execGflog_of_ne_zero {a : Byte} (ha : a ≠ 0) (s : State) :
    execGflog a s = scalar (BitVec.ofNat 32 (gfLog a)) s := if_neg ha

/-- Opcode 0 has the row of NOP alone, and its mask fixes every bit (R103). -/
theorem eq_zero_of_decode_opcode_zero {w : Word} {i : Instr} (hw : w.toNat < 2 ^ 24)
    (h : decode w = .ok i) : w = 0 := by
  obtain ⟨r, hr, hhit, -⟩ := decode_eq_ok_iff.mp h
  have hopc : r.opc = 0 := by
    rw [← OpRow.opcodeOf_of_hit hr hhit, opcodeOf_eq, Nat.div_eq_of_lt hw]
  obtain rfl : r = opcodeTable[0] := opcodeTable_eq_of_opc hr (List.getElem_mem _) hopc
  exact BitVec.and_allOnes.symm.trans (OpRow.hit_iff.mp hhit)

end Sys2Proof.Machine
end

namespace Sys2Proof.Proofs

open Sys2Proof.Machine

/-- Settles O28: completion is NOP's whole effect, and no other word of opcode 0 has a row. -/
theorem nopOnlyCompletes : Obligations.NopOnlyCompletes := by
  refine ⟨decode_encode (i := .nop) rfl, fun w hw hne => ?_, complete_eq, rfl, rfl, rfl⟩
  cases hd : decode w with
  | error e => exact ⟨e, rfl⟩
  | ok i => exact absurd (eq_zero_of_decode_opcode_zero hw hd) hne

/-- Settles O29: RESULT is `gfmul`, whose zero and unit laws are those of the field. -/
theorem gfmulWritesTheProduct : Obligations.GfmulWritesTheProduct := by
  intro a b s
  obtain ⟨hdecode, -⟩ := operandsStandInTheirFields
  have ha := Laws.log_le a
  have hb := Laws.log_le b
  obtain ⟨t, hexec, hdone, honly, hresult⟩ := scalar_completes ((gfmul a b).setWidth 32) s
  refine ⟨hdecode a b, by omega, t, hexec, hdone, honly, hresult, ?_, ?_⟩
  · rintro (rfl | rfl) <;> simp [hresult]
  · rintro rfl
    simp [hresult]

/-- Settles O30: RESULT is `gfpow`, and 255 divides 255 and 65535. -/
theorem gfpowWritesThePower : Obligations.GfpowWritesThePower := by
  obtain ⟨-, hdecode, -⟩ := operandsStandInTheirFields
  refine ⟨hdecode, fun a e s => ?_⟩
  obtain ⟨t, hexec, hdone, honly, hresult⟩ := scalar_completes ((gfpow a e).setWidth 32) s
  refine ⟨t, hexec, hdone, honly, hresult, ?_, ?_, fun ha he => ?_⟩
  · rintro rfl
    simp [hresult]
  · rintro rfl he
    simp [hresult, zero_gfpow he]
  · rw [hresult, gfpow_of_dvd ha (by omega)]; rfl

/-- Settles O31: the numbers of the table satisfy R50's recurrence. -/
theorem gfexpReadsTheExponentTable : Obligations.GfexpReadsTheExponentTable := by
  obtain ⟨-, -, hdecode, -⟩ := operandsStandInTheirFields
  refine ⟨hdecode, fun i s _ => scalar_completes _ s, Laws.exp_zero, fun i h1 h2 => ?_,
    fun i h1 h2 => ?_, xtime_toNat⟩
  · obtain ⟨j, rfl⟩ := Nat.exists_eq_add_of_le' h1
    rw [Nat.add_sub_cancel, Laws.expRom_step j (by omega)]
  · obtain ⟨j, rfl⟩ := Nat.exists_eq_add_of_le' h1
    rw [Nat.add_sub_cancel, Laws.expTable_repeat j (by omega)]

/-- Settles O32: LOG and EXP are inverse to each other away from 0. -/
theorem gflogInvertsTheExponentTable : Obligations.GflogInvertsTheExponentTable := by
  intro a s
  obtain ⟨-, -, -, hdecode, -⟩ := operandsStandInTheirFields
  refine ⟨hdecode a, ?_, fun ha => ?_⟩
  · rintro rfl
    exact execGflog_zero s
  · have hle := Laws.log_le a
    obtain ⟨t, hexec, hdone, honly, hresult⟩ := scalar_completes (BitVec.ofNat 32 (gfLog a)) s
    have hlog : t.result.toNat = gfLog a := by
      rw [hresult, BitVec.toNat_ofNat, Nat.mod_eq_of_lt (by omega)]
    refine ⟨t, (execGflog_of_ne_zero ha s).trans hexec, hdone, honly, ?_⟩
    rw [hlog]
    refine ⟨hle, Laws.exp_log a ha, fun i hi h => eq_gfLog_of_gfExp_eq hi h, ?_⟩
    rintro rfl
    simp [hresult]

/-- Settles O33: both products by EXP[n] are n steps of xtime. -/
theorem gfmulIsThePolynomialProduct : Obligations.GfmulIsThePolynomialProduct := gfmul_eq_shiftMul

/-- Settles O34: the multiplicative laws are those of exponents modulo 255; that products distribute over
sums is seen on the shift-and-add product. -/
theorem fieldLawsHold : Obligations.FieldLawsHold :=
  ⟨gfmul_comm, gfmul_assoc, gfmul_xor, fun a => ⟨one_gfmul a, zero_gfmul a⟩,
    fun _ ha => ⟨gfmul_inverse ha, gfpow_of_dvd ha (dvd_refl 255)⟩,
    fun a e => ⟨gfpow_zero a, gfpow_succ a e⟩, two_gfpow⟩

end Sys2Proof.Proofs

section
/-! PROOFS. The character count of a text that fits (41_bitstream.md R163). -/

namespace Sys2Proof.Machine

/-- The largest capacities of R55 for the two tiers of R57: versions 1 to 9 and version 10. -/
theorem ndata_le_tier : ∀ v < 11, ∀ l : BitVec 2, ndata v l ≤ if v ≤ 9 then 232 else 274 := by
  decide +kernel

/-- Every digit, pair or byte takes enough bits that the capacity bounds the count below its field (R163). -/
theorem length_lt_of_fitsVersion {l : BitVec 2} {md : Mode} {len v : Nat} (hv : v ≤ 10)
    (h : fitsVersion l md len v) : len < 2 ^ countWidth v md := by
  have hcap := ndata_le_tier v (by omega) l
  rw [(vt_numbers v (by omega) l).1] at hcap
  unfold fitsVersion textBits at h
  by_cases h9 : v ≤ 9
  · rw [if_pos h9] at hcap
    cases md <;> simp only [countWidth, payloadLength, h9, if_true] at h ⊢ <;> omega
  · rw [if_neg h9] at hcap
    cases md <;> simp only [countWidth, payloadLength, h9, if_false] at h ⊢ <;> omega

/-- The fit test at (10, L): 274 data codewords (R55). -/
theorem fits_ten_L {md : Mode} {len : Nat} :
    fits 0 md len 10 = true ↔ 4 + countWidth 10 md + payloadLength md len ≤ 2192 :=
  fits_iff (Nat.le_refl 10)

/-- The fit test at (1, H): 9 data codewords (R55). -/
theorem fits_one_H {md : Mode} {len : Nat} :
    fits 3 md len 1 = true ↔ 4 + countWidth 1 md + payloadLength md len ≤ 72 :=
  fits_iff (by decide)

end Sys2Proof.Machine
end

section
/-! PROOFS. The bits of the data codewords (41_bitstream.md R156 to R160): the payload by groups, the bytes cut
from the stream, and what Safety.lean says stands at each position of the codewords. -/

namespace Sys2Proof.Machine

/-! ### The payload by groups (R157, R158, R159) -/

theorem drop_eq_getD_cons {t : List Byte} {i : Nat} (h : i < t.length) :
    t.drop i = t.getD i 0 :: t.drop (i + 1) := by
  rw [List.getD_eq_getElem _ _ h, List.drop_eq_getElem_cons h]

/-- Dropping the bits of j groups of three digits leaves the payload of the digits after them. -/
theorem numericPayload_drop (j : Nat) (t : List Byte) (h : 3 * j ≤ t.length) :
    (numericPayload t).drop (10 * j) = numericPayload (t.drop (3 * j)) := by
  induction j generalizing t with
  | zero => rfl
  | succ j ih =>
    match t, h with
    | a :: b :: c :: rest, h =>
      rw [numericPayload, Nat.mul_succ, Nat.add_comm, ← List.drop_drop, List.drop_left' (put_length _ _)]
      exact ih rest (by simp only [List.length_cons] at h; omega)

/-- Dropping the bits of j pairs leaves the payload of the characters after them. -/
theorem alnumPayload_drop (j : Nat) (t : List Byte) (h : 2 * j ≤ t.length) :
    (alnumPayload t).drop (11 * j) = alnumPayload (t.drop (2 * j)) := by
  induction j generalizing t with
  | zero => rfl
  | succ j ih =>
    match t, h with
    | a :: b :: rest, h =>
      rw [alnumPayload, Nat.mul_succ, Nat.add_comm, ← List.drop_drop, List.drop_left' (put_length _ _)]
      exact ih rest (by simp only [List.length_cons] at h; omega)

/-- Dropping the bits of i bytes leaves the payload of the bytes after them. -/
theorem bytePayload_drop (i : Nat) (t : List Byte) (h : i ≤ t.length) :
    (bytePayload t).drop (8 * i) = bytePayload (t.drop i) := by
  induction i generalizing t with
  | zero => rfl
  | succ i ih =>
    match t, h with
    | b :: rest, h =>
      rw [bytePayload, List.flatMap_cons, Nat.mul_succ, Nat.add_comm, ← List.drop_drop,
        List.drop_left' (put_length _ _)]
      exact ih rest (Nat.le_of_succ_le_succ h)

/-! ### What the groups put -/

variable {bytes : List Byte} {bits : List Bool} {t : List Byte} {p : Nat}

theorem put_getD {x w k : Nat} (h : k < w) : (put x w).getD k false = x.testBit (w - 1 - k) := by
  rw [List.getD_eq_getElem _ _ (by simpa using h)]
  simp [put]

/-- The bytes' own bits begin with the given ones. -/
def showsBits (bytes : List Byte) (bits : List Bool) : Prop :=
  ∀ k, k < bits.length → byteStreamBit bytes k = bits.getD k false

/-- A value stands in the bytes where `put` stands in the bits they show. -/
theorem showsBits.putAt_of_isPrefix (h : showsBits bytes bits) {x w : Nat} (hx : x < 2 ^ w)
    (hput : put x w <+: bits.drop p) : putAt bytes p x w := by
  refine ⟨hx, fun k hk => ?_⟩
  obtain ⟨rest, hrest⟩ := hput
  have hlen := congrArg List.length hrest
  simp only [List.length_append, put_length, List.length_drop] at hlen
  have hget : bits.getD (p + k) false = (bits.drop p).getD k false := by simp [List.getD]
  rw [h (p + k) (by omega), hget, ← hrest, List.getD_append _ _ _ _ (by simpa using hk), put_getD hk]

/-- The ALNUM index of R59 is the position in the table, at most 44. -/
theorem alnumIndex_eq_alnumValue : ∀ b : Byte, isAlnum b = true → alnumIndex b = alnumValue b := by
  decide +kernel

theorem alnumValue_le : ∀ b : Byte, alnumValue b ≤ 44 := by decide +kernel

theorem digitAt_le (h : numericText t) {i : Nat} (hi : i < t.length) : digitAt t i ≤ 9 := by
  obtain ⟨-, hhi⟩ := h _ (List.getElem_mem hi)
  rw [digitAt, List.getD_eq_getElem _ _ hi]
  omega

theorem alnumIndex_getD (h : alnumText t) {i : Nat} (hi : i < t.length) :
    alnumIndex (t.getD i 0) = alnumAt t i := by
  rw [alnumAt, List.getD_eq_getElem _ _ hi]
  exact alnumIndex_eq_alnumValue _ ((isAlnum_iff _).2 (h _ (List.getElem_mem hi)))

theorem showsBits.numericPayload_of_drop (h : showsBits bytes bits) (ht : numericText t)
    (hp : bits.drop p = numericPayload t) : payloadAt bytes p .numeric t := by
  have hdrop : ∀ j, 3 * j ≤ t.length → bits.drop (p + 10 * j) = numericPayload (t.drop (3 * j)) := by
    intro j hj
    rw [← List.drop_drop, hp, numericPayload_drop j t hj]
  refine ⟨fun j hj => h.putAt_of_isPrefix ?_ ?_, fun hmod => ?_, fun hmod => ?_⟩
  · have := digitAt_le ht (i := 3 * j) (by omega)
    have := digitAt_le ht (i := 3 * j + 1) (by omega)
    have := digitAt_le ht (i := 3 * j + 2) (by omega)
    omega
  · rw [hdrop j (by omega), drop_eq_getD_cons (by omega), drop_eq_getD_cons (by omega),
      drop_eq_getD_cons (by omega)]
    exact List.prefix_append _ _
  · rw [show t.length - 2 = 3 * (t.length / 3) by omega,
      show t.length - 1 = 3 * (t.length / 3) + 1 by omega]
    refine h.putAt_of_isPrefix ?_ ?_
    · have := digitAt_le ht (i := 3 * (t.length / 3)) (by omega)
      have := digitAt_le ht (i := 3 * (t.length / 3) + 1) (by omega)
      omega
    · rw [hdrop _ (by omega), drop_eq_getD_cons (by omega), drop_eq_getD_cons (by omega),
        List.drop_of_length_le (by omega)]
      exact List.prefix_rfl
  · rw [show t.length - 1 = 3 * (t.length / 3) by omega]
    refine h.putAt_of_isPrefix ?_ ?_
    · have := digitAt_le ht (i := 3 * (t.length / 3)) (by omega)
      omega
    · rw [hdrop _ (by omega), drop_eq_getD_cons (by omega), List.drop_of_length_le (by omega)]
      exact List.prefix_rfl

theorem showsBits.alnumPayload_of_drop (h : showsBits bytes bits) (ht : alnumText t)
    (hp : bits.drop p = alnumPayload t) : payloadAt bytes p .alphanumeric t := by
  have hdrop : ∀ j, 2 * j ≤ t.length → bits.drop (p + 11 * j) = alnumPayload (t.drop (2 * j)) := by
    intro j hj
    rw [← List.drop_drop, hp, alnumPayload_drop j t hj]
  refine ⟨fun j hj => h.putAt_of_isPrefix ?_ ?_, fun hmod => ?_⟩
  · have : alnumAt t (2 * j) ≤ 44 := alnumValue_le _
    have : alnumAt t (2 * j + 1) ≤ 44 := alnumValue_le _
    omega
  · rw [hdrop j (by omega), drop_eq_getD_cons (by omega), drop_eq_getD_cons (by omega), alnumPayload,
      alnumIndex_getD ht (by omega), alnumIndex_getD ht (by omega)]
    exact List.prefix_append _ _
  · rw [show t.length - 1 = 2 * (t.length / 2) by omega]
    refine h.putAt_of_isPrefix ?_ ?_
    · have : alnumAt t (2 * (t.length / 2)) ≤ 44 := alnumValue_le _
      omega
    · rw [hdrop _ (by omega), drop_eq_getD_cons (by omega), List.drop_of_length_le (by omega),
        alnumPayload, alnumIndex_getD ht (by omega)]

theorem showsBits.bytePayload_of_drop (h : showsBits bytes bits) (hp : bits.drop p = bytePayload t) :
    payloadAt bytes p .byte t := by
  refine fun i hi => h.putAt_of_isPrefix (BitVec.isLt _) ?_
  rw [← List.drop_drop, hp, bytePayload_drop i t (by omega), drop_eq_getD_cons hi]
  exact List.prefix_append _ _

/-- Bytes that show the bits of an eligible text from p on have its payload there. -/
theorem showsBits.payloadAt_of_drop (h : showsBits bytes bits) {md : Mode} (ht : modeEligible md t)
    (hp : bits.drop p = payload md t) : payloadAt bytes p md t := by
  cases md with
  | numeric => exact h.numericPayload_of_drop ht hp
  | alphanumeric => exact h.alnumPayload_of_drop ht hp
  | byte => exact h.bytePayload_of_drop hp

/-- Bytes that show the stream of an eligible text whose count fits show the text (R156 to R159). -/
theorem showsBits.textAt_of_eligible {v : Nat} (hv : v ≤ 10) {md : Mode}
    (h : showsBits bytes (streamOf v md t)) (ht : modeEligible md t)
    (hcount : t.length < 2 ^ countWidth v md) : textAt bytes v md t := by
  have hstream : streamOf v md t =
      put (indicatorOf md) 4 ++ (put t.length (countWidth v md) ++ payload md t) := by
    rw [streamOf, headerBits, ccw_eq_countWidth hv, List.append_assoc]
    cases md <;> rfl
  have hcountBits : (streamOf v md t).drop 4 = put t.length (countWidth v md) ++ payload md t := by
    rw [hstream, List.drop_left' (put_length _ _)]
  refine ⟨h.putAt_of_isPrefix ?_ ?_, h.putAt_of_isPrefix hcount ?_, h.payloadAt_of_drop ht ?_⟩
  · cases md <;> decide
  · rw [List.drop_zero, hstream]
    exact List.prefix_append _ _
  · rw [hcountBits]
    exact List.prefix_append _ _
  · rw [← List.drop_drop, hcountBits, List.drop_left' (put_length _ _)]

/-! ### Bytes cut from bits (step 3 of R160) -/

/-- Horner's rule in base 2: bit i of the value is the i-th bit from the end. -/
theorem testBit_foldl_bits (bits : List Bool) (i : Nat) :
    (bits.foldl (fun acc (b : Bool) => 2 * acc + b.toNat) 0).testBit i = bits.reverse.getD i false := by
  induction bits using List.reverseRecOn generalizing i with
  | nil => simp
  | append_singleton bs b ih =>
    rw [List.foldl_concat, List.reverse_concat]
    cases i with
    | zero => cases b <;> simp [Nat.testBit_zero]
    | succ i =>
      rw [Nat.testBit_succ, List.getD_cons_succ, ← ih]
      congr 1
      have := Bool.toNat_le b
      omega

/-- The first bit of a byte is its bit 7. -/
theorem byteOfBits_getLsbD {bs : List Bool} (h : bs.length = 8) {i : Nat} (hi : i < 8) :
    (byteOfBits bs).getLsbD (7 - i) = bs.getD i false := by
  rw [byteOfBits, BitVec.getLsbD_ofNat, testBit_foldl_bits, List.getD_reverse _ (by omega), h,
    decide_eq_true (by omega), Bool.true_and]
  congr 1
  omega

@[simp] theorem cutBytes_length (bits : List Bool) : (cutBytes bits).length = bits.length / 8 := by
  simp [cutBytes]

theorem cutBytes_getD {i : Nat} (h : i < bits.length / 8) :
    (cutBytes bits).getD i 0 = byteOfBits ((bits.drop (8 * i)).take 8) := by
  rw [List.getD_eq_getElem _ _ (by rwa [cutBytes_length])]
  simp [cutBytes]

/-- The bytes cut from whole bytes of bits show these bits. -/
theorem showsBits_cutBytes (h : bits.length % 8 = 0) : showsBits (cutBytes bits) bits := by
  intro k hk
  have hmod : k % 8 < 8 := Nat.mod_lt k (by decide)
  have hgroup : ((bits.drop (8 * (k / 8))).take 8).length = 8 := by
    rw [List.length_take, List.length_drop]
    omega
  rw [byteStreamBit, cutBytes_getD (by omega), byteOfBits_getLsbD hgroup hmod]
  simp only [List.getD_eq_getElem?_getD, List.getElem?_take_of_lt hmod, List.getElem?_drop, Nat.div_add_mod]

/-! ### The data codewords (R160) -/

/-- The bytes that hold `len` bits and their terminator when n bytes may be used (steps 1 and 2 of R160). -/
def usedBytes (len n : Nat) : Nat := (len + min 4 (8 * n - len) + 7) / 8

theorem usedBytes_le {len n : Nat} (h : len ≤ 8 * n) : usedBytes len n ≤ n := by
  unfold usedBytes
  omega

theorem aligned_length (bits : List Bool) (n : Nat) :
    (alignBits (withTerminator (8 * n) bits)).length = 8 * usedBytes bits.length n := by
  simp only [alignBits, withTerminator, usedBytes, List.length_append, List.length_replicate]
  omega

/-- The terminator and the alignment are zero bits, which is also what stands past the end of the stream. -/
theorem aligned_getD (bits : List Bool) (n k : Nat) :
    (alignBits (withTerminator (8 * n) bits)).getD k false = bits.getD k false := by
  have hzero : ∀ (bs : List Bool) (z : Nat),
      (bs ++ List.replicate z false).getD k false = bs.getD k false := by
    intro bs z
    rcases Nat.lt_or_ge k bs.length with hlt | hge
    · exact List.getD_append _ _ _ _ hlt
    · rw [List.getD_append_right _ _ _ _ hge, List.getD_eq_default _ _ hge]
      rw [List.getD_eq_getElem?_getD, List.getElem?_getD_replicate_default_eq]
  rw [alignBits, hzero, withTerminator, hzero]

variable {md : Mode} {v : Nat} {l : BitVec 2}

/-- The bytes before the pads. -/
theorem cutBytes_aligned_length (bits : List Bool) (n : Nat) :
    (cutBytes (alignBits (withTerminator (8 * n) bits))).length = usedBytes bits.length n := by
  rw [cutBytes_length, aligned_length, Nat.mul_div_cancel_left _ (by decide)]

/-- Before the pads the codewords' bits are the stream's, then zero. -/
theorem byteStreamBit_dataCw {k : Nat}
    (hk : k < 8 * usedBytes (streamOf v md t).length (ndata v l)) :
    byteStreamBit (dataCw t md v l) k = (streamOf v md t).getD k false := by
  have haligned := aligned_length (streamOf v md t) (ndata v l)
  rw [← aligned_getD _ (ndata v l), ← showsBits_cutBytes (by omega) k (by omega), byteStreamBit, dataCw,
    List.getD_append _ _ _ _ (by rw [cutBytes_aligned_length]; omega), byteStreamBit]

theorem padBytes_getD {i k : Nat} (h : i < k) :
    (padBytes k).getD i 0 = if i % 2 = 0 then 0xEC else 0x11 := by
  rw [List.getD_eq_getElem _ _ (by simpa [padBytes] using h)]
  simp [padBytes]

/-- The codewords after the stream's bytes are the pads. -/
theorem dataCw_getD_pad {i : Nat}
    (hi : usedBytes (streamOf v md t).length (ndata v l) + i < ndata v l) :
    (dataCw t md v l).getD (usedBytes (streamOf v md t).length (ndata v l) + i) 0 =
      if i % 2 = 0 then 0xEC else 0x11 := by
  rw [dataCw, List.getD_append_right _ _ _ _ (by rw [cutBytes_aligned_length]; omega),
    cutBytes_aligned_length, Nat.add_sub_cancel_left, padBytes_getD (by omega)]

/-- The codewords show the whole stream. -/
theorem showsBits_dataCw : showsBits (dataCw t md v l) (streamOf v md t) := by
  intro k hk
  refine byteStreamBit_dataCw ?_
  unfold usedBytes
  omega

end Sys2Proof.Machine
end

namespace Sys2Proof.Proofs

open Sys2Proof.Machine

/-- Settles O37: the codewords are the bytes cut from the stream and its zero bits, then the pads. -/
theorem dataCodewordsFillTheCapacity : Obligations.DataCodewordsFillTheCapacity := by
  intro t md v l _ hv hfit
  have hfits := (fits_iff hv).2 hfit
  have hlen : (streamOf v md t).length = textBits v md t.length := by
    rw [streamOf_length, streamBits_eq_textBits hv]
  obtain ⟨htotal, -⟩ := vt_numbers v (by omega) l
  refine ⟨fun ht => showsBits_dataCw.textAt_of_eligible hv ht (length_lt_of_fitsVersion hv hfit), hlen,
    (dataCw_length hfits).trans htotal, htotal, usedBytes_le hfit, fun k hk => showsBits_dataCw k (by omega),
    fun k hge hk => ?_, fun i hi => ?_⟩
  · rw [← htotal, ← hlen] at hk
    rw [byteStreamBit_dataCw hk, List.getD_eq_default _ _ (by omega)]
  · rw [← htotal, ← hlen] at hi ⊢
    exact dataCw_getD_pad hi

/-- Settles O38: the capacities of R55 bound the count, and the two capacities of R163 are 2192 and 72 bits. -/
theorem characterCountFitsItsField : Obligations.CharacterCountFitsItsField := by
  refine ⟨fun v l md len _ hv => ⟨ccw_eq_countWidth hv md, payloadBits_eq_payloadLength md len, fits_iff hv,
    fun hfit => ?_⟩, fun len => ?_⟩
  · rw [ccw_eq_countWidth hv]
    exact length_lt_of_fitsVersion hv ((fits_iff hv).1 hfit)
  · simp only [fits_ten_L, fits_one_H, countWidth, payloadLength]
    refine ⟨?_, ?_, ?_, ?_, ?_, ?_⟩ <;> split_ifs <;> omega

end Sys2Proof.Proofs

section
/-! PROOFS. Reed-Solomon encoding as arithmetic of polynomials (42_reed_solomon.md R180, R181): a factor of the
generator multiplies its value by x − α^i, and a round of the division register keeps the block and its
remainder a multiple of the generator. -/

namespace Sys2Proof.Machine

/-! ### Horner's rule -/

theorem xor_gfmul (a b c : Byte) : gfmul (a ^^^ b) c = gfmul a c ^^^ gfmul b c := by
  simp only [gfmul_comm _ c, gfmul_xor]

/-- Horner's rule from a value `a` of the coefficients already read. -/
def hornerFrom (x a : Byte) (p : List Byte) : Byte := p.foldl (fun acc c => gfmul acc x ^^^ c) a

theorem polyEval_eq (p : List Byte) (x : Byte) : polyEval p x = hornerFrom x 0 p := rfl

@[simp] theorem hornerFrom_nil (x a : Byte) : hornerFrom x a [] = a := rfl

@[simp] theorem hornerFrom_cons (x a c : Byte) (p : List Byte) :
    hornerFrom x a (c :: p) = hornerFrom x (gfmul a x ^^^ c) p := rfl

@[simp] theorem hornerFrom_append (x a : Byte) (p q : List Byte) :
    hornerFrom x a (p ++ q) = hornerFrom x (hornerFrom x a p) q := List.foldl_append

/-- The value of a sum of polynomials of equal length is the sum of their values. -/
theorem hornerFrom_xor (x a b : Byte) {p q : List Byte} (h : p.length = q.length) :
    hornerFrom x (a ^^^ b) (List.zipWith (· ^^^ ·) p q) = hornerFrom x a p ^^^ hornerFrom x b q := by
  induction p generalizing a b q with
  | nil => cases q with
    | nil => rfl
    | cons d q => simp at h
  | cons c p ih => cases q with
    | nil => simp at h
    | cons d q =>
      have hacc : gfmul (a ^^^ b) x ^^^ (c ^^^ d) = (gfmul a x ^^^ c) ^^^ (gfmul b x ^^^ d) := by
        rw [xor_gfmul]; ac_rfl
      rw [List.zipWith_cons_cons, hornerFrom_cons, hacc, ih _ _ (by simpa using h), hornerFrom_cons,
        hornerFrom_cons]

/-- The value of a multiple of a polynomial is the multiple of its value. -/
theorem hornerFrom_map_gfmul (x r a : Byte) (p : List Byte) :
    hornerFrom x (gfmul a r) (p.map fun g => gfmul g r) = gfmul (hornerFrom x a p) r := by
  induction p generalizing a with
  | nil => rfl
  | cons c p ih =>
    have hacc : gfmul (gfmul a r) x ^^^ gfmul c r = gfmul (gfmul a x ^^^ c) r := by
      rw [xor_gfmul, gfmul_assoc, gfmul_comm r x, gfmul_assoc]
    rw [List.map_cons, hornerFrom_cons, hacc, ih, hornerFrom_cons]

theorem hornerFrom_replicate_zero (x : Byte) (n : Nat) : hornerFrom x 0 (List.replicate n 0) = 0 := by
  induction n with
  | zero => rfl
  | succ n ih =>
    have hacc : gfmul 0 x ^^^ 0 = 0 := by simp
    rw [List.replicate_succ, hornerFrom_cons, hacc, ih]

/-! ### The generator (R180) -/

theorem generator_succ (ec : Nat) : generator (ec + 1) = genStep (generator ec) (gfExp ec) := by
  rw [generator, List.range_succ, List.foldl_append]; rfl

/-- The generator is monic. -/
theorem generator_monic (ec : Nat) : ∃ gs, generator ec = 1#8 :: gs := by
  induction ec with
  | zero => exact ⟨[], rfl⟩
  | succ ec ih =>
    obtain ⟨gs, hgs⟩ := ih
    exact ⟨_, by rw [generator_succ, hgs]; rfl⟩

/-- A factor multiplies the value by x − r, and subtraction is exclusive or. -/
theorem polyEval_genStep (gen : List Byte) (r x : Byte) :
    polyEval (genStep gen r) x = gfmul (polyEval gen x) (x ^^^ r) := by
  have hmul := hornerFrom_map_gfmul x r 0#8 gen
  rw [zero_gfmul] at hmul
  calc polyEval (genStep gen r) x
      = hornerFrom x 0#8 (gen ++ [0]) ^^^ hornerFrom x 0#8 (0 :: gen.map fun g => gfmul g r) :=
        hornerFrom_xor x 0#8 0#8 (by simp)
    _ = gfmul (hornerFrom x 0#8 gen) x ^^^ gfmul (hornerFrom x 0#8 gen) r := by simp [hmul]
    _ = gfmul (polyEval gen x) (x ^^^ r) := (gfmul_xor _ x r).symm

/-- The roots of the generator are α^0 … α^(ec−1). -/
theorem polyEval_generator_root {ec i : Nat} (h : i < ec) : polyEval (generator ec) (gfExp i) = 0 := by
  induction ec with
  | zero => omega
  | succ ec ih =>
    rw [generator_succ, polyEval_genStep]
    rcases Nat.lt_succ_iff_lt_or_eq.1 h with hlt | rfl
    · rw [ih hlt]; exact zero_gfmul _
    · rw [BitVec.xor_self]; exact gfmul_zero _

/-! ### The division register (R181) -/

/-- A round of the register keeps the codewords read and the register's contents a polynomial that vanishes at
x: it subtracts the multiple of the generator that clears the leading coefficient. -/
theorem hornerFrom_parityStep {ec : Nat} {x : Byte} (hx : polyEval (generator ec) x = 0) {rem : List Byte}
    (hlen : rem.length = ec) (hec : 0 < ec) {a : Byte} (h : hornerFrom x a rem = 0) (d : Byte) :
    hornerFrom x (gfmul a x ^^^ d) (parityStep (generator ec) rem d) = 0 := by
  obtain ⟨r, rs, rfl⟩ := List.exists_cons_of_length_pos (hlen ▸ hec)
  have hgen := generator_length ec
  obtain ⟨gs, hgs⟩ := generator_monic ec
  rw [hgs] at hx hgen ⊢
  have hroot : hornerFrom x 1#8 gs = 0#8 := by simpa [polyEval_eq] using hx
  have hmul := hornerFrom_map_gfmul x (d ^^^ r) 1#8 gs
  rw [hroot, one_gfmul, zero_gfmul] at hmul
  have hlead : gfmul a x ^^^ d = (gfmul a x ^^^ r) ^^^ (d ^^^ r) := by
    rw [BitVec.xor_comm d r, BitVec.xor_assoc, ← BitVec.xor_assoc r, BitVec.xor_self, BitVec.zero_xor]
  have hsum := hornerFrom_xor x (gfmul a x ^^^ r) (d ^^^ r) (p := rs ++ [0])
    (q := gs.map fun g => gfmul g (d ^^^ r)) (by
      simp only [List.length_append, List.length_map, List.length_cons, List.length_nil] at hgen hlen ⊢
      omega)
  rw [hmul, hornerFrom_append, ← hornerFrom_cons, h] at hsum
  rw [hlead]
  exact hsum.trans (by simp)

/-- The block followed by its parity vanishes at every root of the generator. -/
theorem polyEval_append_parity {ec i : Nat} (hi : i < ec) (block : List Byte) :
    polyEval (block ++ parity ec block) (gfExp i) = 0 := by
  have hrun : ∀ (block rem : List Byte) (a : Byte), rem.length = ec → hornerFrom (gfExp i) a rem = 0 →
      hornerFrom (gfExp i) a (block ++ block.foldl (parityStep (generator ec)) rem) = 0 := by
    intro block
    induction block with
    | nil => exact fun rem a _ h => h
    | cons d ds ih =>
      exact fun rem a hlen h => ih _ _ (parityStep_length hlen d)
        (hornerFrom_parityStep (polyEval_generator_root hi) hlen (by omega) h d)
  refine hrun block _ 0 (by simp) ?_
  exact hornerFrom_replicate_zero _ _

/-- The zero register stays zero on a zero codeword. -/
theorem parityStep_zero (ec : Nat) :
    parityStep (generator ec) (List.replicate ec 0) 0 = List.replicate ec 0 := by
  cases ec with
  | zero => rfl
  | succ ec =>
    have hmap : (generator (ec + 1)).tail.map (fun g => gfmul g 0#8) = List.replicate (ec + 1) 0#8 := by
      simp [List.map_const', generator_length]
    have hshift : (List.replicate (ec + 1) 0#8).tail ++ [0#8] = List.replicate (ec + 1) 0#8 := by
      rw [List.tail_replicate, Nat.add_sub_cancel, ← List.replicate_succ']
    have hlead : 0#8 ^^^ (List.replicate (ec + 1) 0#8).headD 0#8 = 0#8 := by simp [List.replicate_succ]
    rw [parityStep]
    simp only [BitVec.ofNat_eq_ofNat, hlead, hmap, hshift, List.zipWith_replicate', BitVec.xor_self]

/-- An all-zero block has zero parity. -/
theorem parity_replicate_zero (ec len : Nat) : parity ec (List.replicate len 0) = List.replicate ec 0 := by
  induction len with
  | zero => rfl
  | succ len ih => rw [List.replicate_succ, parity, List.foldl_cons, parityStep_zero]; exact ih

end Sys2Proof.Machine
end

section
/-! PROOFS. RSGEN and RSENC (42_reed_solomon.md R184, R185): both store one run of bytes or refuse their
operands. -/

namespace Sys2Proof.Machine

/-- Completing with one stored run: what every byte then reads (R302). -/
theorem complete_writeBytes (s : State) (base : Nat) (bs : List Byte) :
    ∃ t, complete (s.writeBytes base bs) = .next t ∧ s.completedTo t ∧ onlyMemory s t ∧
      sameBytesOutside s t base bs.length ∧ t.readBytes base bs.length = bs :=
  ⟨_, complete_eq _, ⟨rfl, rfl⟩, rfl, fun _ ha => s.readByte_writeBytes_outside ha,
    s.readBytes_writeBytes base bs⟩

/-- One byte of a run that is known as a whole. -/
theorem State.readByte_of_readBytes {t : State} {base : Nat} {bs : List Byte}
    (h : t.readBytes base bs.length = bs) {i : Nat} {x : Byte} (hi : bs[i]? = some x) :
    t.readByte (base + i) = x := by
  obtain ⟨hlt, rfl⟩ := List.getElem?_eq_some_iff.1 hi
  rw [← t.readBytes_getElem base bs.length (i := i) (by simpa using hlt)]
  simp only [h]

theorem execRsgen_refuses {ec : Nat} (h : ¬ (1 ≤ ec ∧ ec ≤ 30)) (s : State) :
    execRsgen ec s = raise (.plain .badOperand) s := if_neg (mt ecOK_iff.1 h)

theorem execRsgen_stores {ec : Nat} (h : 1 ≤ ec ∧ ec ≤ 30) (s : State) :
    execRsgen ec s = complete (s.writeBytes 0x1920 (generator ec)) := if_pos (ecOK_iff.2 h)

theorem rsencOK_iff {len ec : Nat} : (ecOK ec && decide (len + ec ≤ Config.maxCodeword)) = true ↔
    (1 ≤ ec ∧ ec ≤ 30) ∧ len + ec ≤ 255 := by
  rw [Bool.and_eq_true, ecOK_iff, decide_eq_true_eq]; rfl

theorem execRsenc_refuses {len ec : Nat} (h : ¬ ((1 ≤ ec ∧ ec ≤ 30) ∧ len + ec ≤ 255)) (s : State) :
    execRsenc len ec s = raise (.plain .badOperand) s := if_neg (mt rsencOK_iff.1 h)

theorem execRsenc_stores {len ec : Nat} (h : (1 ≤ ec ∧ ec ≤ 30) ∧ len + ec ≤ 255) (s : State) :
    execRsenc len ec s = complete (s.writeBytes 0x1900 (parity ec (s.readBytes 0x1800 len))) :=
  if_pos (rsencOK_iff.2 h)

end Sys2Proof.Machine
end

namespace Sys2Proof.Proofs

open Sys2Proof.Machine

/-- Settles O39: each factor keeps the generator monic and adds its root. -/
theorem rsgenStoresTheGenerator : Obligations.RsgenStoresTheGenerator := by
  intro ec s
  refine ⟨fun h => execRsgen_refuses (by omega) s, fun hlo hhi => ?_⟩
  obtain ⟨t, hexec, hdone, honly, hframe, hread⟩ := complete_writeBytes s 0x1920 (generator ec)
  obtain ⟨gs, hmonic⟩ := generator_monic ec
  have hlead : t.readByte 0x1920 = 1 := State.readByte_of_readBytes (i := 0) hread (by rw [hmonic]; rfl)
  rw [generator_length] at hframe hread
  refine ⟨t, (execRsgen_stores ⟨hlo, hhi⟩ s).trans hexec, hdone, honly, hframe, hread, hlead, fun i hi => ?_⟩
  rw [hread, polyEval_generator_root hi]

/-- Settles O40: the register stays zero over zero codewords. -/
theorem rsencStoresTheParity : Obligations.RsencStoresTheParity := by
  intro len ec s
  refine ⟨fun h => execRsenc_refuses (by omega) s, fun hlo hhi hsum => ?_⟩
  obtain ⟨t, hexec, hdone, honly, hframe, hread⟩ :=
    complete_writeBytes s 0x1900 (parity ec (s.readBytes 0x1800 len))
  refine ⟨t, (execRsenc_stores ⟨⟨hlo, hhi⟩, hsum⟩ s).trans hexec, hdone, honly,
    by rwa [parity_length] at hframe, by rwa [parity_length] at hread, fun hzero j hj => ?_⟩
  have hblock : s.readBytes 0x1800 len = List.replicate len 0 :=
    List.ext_getElem (by simp) fun i hi _ => by
      rw [s.readBytes_getElem, List.getElem_replicate, hzero i (by simpa using hi)]
  rw [hblock, parity_replicate_zero] at hread
  exact State.readByte_of_readBytes hread (by simp [hj])

/-- Settles O41: RSBUF stays below PARBUF's first byte, and the block with its parity is a codeword. -/
theorem rsencMakesACodeword : Obligations.RsencMakesACodeword := by
  intro len ec s t hlo hhi hsum hexec i hi
  obtain ⟨-, hstores⟩ := rsencStoresTheParity len ec s
  obtain ⟨u, hu, -, -, hframe, hparity, -⟩ := hstores hlo hhi hsum
  obtain rfl : t = u := Host.Outcome.next.inj (hexec.symm.trans hu)
  have hblock : t.readBytes 0x1800 len = s.readBytes 0x1800 len :=
    State.readBytes_congr fun k hk => hframe _ (.inl (by omega))
  rw [hblock, hparity, polyEval_append_parity hi]

end Sys2Proof.Proofs

section
/-! PROOFS. ECENC (42_reed_solomon.md R182, R183, R186): the data codewords split into consecutive runs of DATACW;
a round-robin pass over lists long enough for it is a matrix in row-major order, and the pass over the data ends
with one shorter row. -/

namespace Sys2Proof.Machine

/-! ### The blocks (R182) -/

theorem State.readBytes_add (s : State) (base m n : Nat) :
    s.readBytes base (m + n) = s.readBytes base m ++ s.readBytes (base + m) n := by
  simp [State.readBytes, List.range_add, Nat.add_assoc]

/-- Blocks split from a run of bytes are the runs that start where the lengths before them end. -/
theorem splitBlocks_readBytes (lens : List Nat) (s : State) (base : Nat) :
    splitBlocks lens (s.readBytes base lens.sum) =
      (List.range lens.length).map fun b => s.readBytes (base + (lens.take b).sum) (lens.getD b 0) := by
  induction lens generalizing base with
  | nil => rfl
  | cons k ks ih =>
    rw [List.sum_cons, State.readBytes_add, splitBlocks, List.take_left' (by simp),
      List.drop_left' (by simp), ih, List.length_cons, List.range_succ_eq_map]
    simp [Function.comp_def, Nat.add_assoc]

/-- The block structure of R54: block b has k_b codewords, the blocks make up NDATA, and only the longer ones have
a codeword after the first group's length, which is the last round of the data pass (R183). -/
theorem vt_blocks : ∀ v < 11, ∀ l : BitVec 2,
    blockLengths (vt v l).groups = (List.range (nblocks v l)).map (blockLen v l) ∧
    ndata v l = blockStart v l (nblocks v l) ∧
    (firstGroup v l).1 ≤ nblocks v l ∧
    ndata v l = (firstGroup v l).2 * nblocks v l + (nblocks v l - (firstGroup v l).1) ∧
    (blockLengths (vt v l).groups).foldl max 0 =
      (firstGroup v l).2 + min 1 (nblocks v l - (firstGroup v l).1) := by
  decide +kernel

/-- The blocks of DATACW (R182): block b is the run of k_b codewords from s_b on. -/
def State.dataBlocks (s : State) (v : Nat) (l : BitVec 2) : List (List Byte) :=
  (List.range (nblocks v l)).map fun b => s.readBytes (0x1400 + blockStart v l b) (blockLen v l b)

@[simp] theorem State.dataBlocks_length (s : State) (v : Nat) (l : BitVec 2) :
    (s.dataBlocks v l).length = nblocks v l := by simp [State.dataBlocks]

@[simp] theorem State.dataBlocks_getElem (s : State) (v : Nat) (l : BitVec 2) {b : Nat}
    (hb : b < (s.dataBlocks v l).length) :
    (s.dataBlocks v l)[b] = s.readBytes (0x1400 + blockStart v l b) (blockLen v l b) := by
  simp [State.dataBlocks]

theorem State.dataBlocks_getElem? (s : State) (v : Nat) (l : BitVec 2) {b : Nat} (hb : b < nblocks v l) :
    (s.dataBlocks v l)[b]? = some (s.readBytes (0x1400 + blockStart v l b) (blockLen v l b)) := by
  simp [State.dataBlocks, hb]

/-- The model splits DATACW into these blocks. -/
theorem splitBlocks_dataCw {v : Nat} (hv : v < 11) (l : BitVec 2) (s : State) :
    splitBlocks (blockLengths (vt v l).groups) (s.readBytes 0x1400 (ndata v l)) = s.dataBlocks v l := by
  obtain ⟨hlens, hdata, -⟩ := vt_blocks v hv l
  rw [hlens, hdata, blockStart, splitBlocks_readBytes, List.length_map, List.length_range]
  refine List.map_congr_left fun b hb => ?_
  have hb := List.mem_range.1 hb
  rw [← List.map_take, List.take_range, Nat.min_eq_left hb.le, blockStart]
  simp [hb]

/-! ### Round-robin passes (R183) -/

theorem column_append (xs ys : List (List Byte)) (i : Nat) :
    column (xs ++ ys) i = column xs i ++ column ys i := List.filterMap_append

/-- Lists that are exhausted are skipped. -/
theorem column_eq_nil {lists : List (List Byte)} {i : Nat} (h : ∀ p ∈ lists, p.length ≤ i) :
    column lists i = [] := by
  rw [column, List.filterMap_eq_nil_iff]
  exact fun p hp => List.getElem?_eq_none (h p hp)

/-- A column of lists that all reach it has one entry of each. -/
theorem column_eq_map {lists : List (List Byte)} {i : Nat} (h : ∀ p ∈ lists, i < p.length) :
    column lists i = lists.map fun p => p.getD i 0 := by
  rw [column, ← List.filterMap_eq_map]
  refine List.filterMap_congr fun p hp => ?_
  simp [h p hp]

theorem roundRobin_succ (rounds : Nat) (lists : List (List Byte)) :
    roundRobin (rounds + 1) lists = roundRobin rounds lists ++ column lists rounds := by
  simp [roundRobin, List.range_succ]

theorem roundRobin_length {rounds : Nat} {lists : List (List Byte)} (h : ∀ p ∈ lists, rounds ≤ p.length) :
    (roundRobin rounds lists).length = rounds * lists.length := by
  induction rounds with
  | zero => simp [roundRobin]
  | succ rounds ih =>
    rw [roundRobin_succ, List.length_append, ih fun p hp => Nat.le_of_succ_le (h p hp), column_eq_map h,
      List.length_map, Nat.succ_mul]

/-- Entry i of list b stands at i·n + b when the pass exhausts none of the n lists. -/
theorem roundRobin_getElem? {rounds : Nat} {lists : List (List Byte)} (h : ∀ p ∈ lists, rounds ≤ p.length)
    {n i b : Nat} (hn : lists.length = n) (hi : i < rounds) {p : List Byte} (hp : lists[b]? = some p) :
    (roundRobin rounds lists)[i * n + b]? = some (p.getD i 0) := by
  have hcol : ∀ j < rounds, column lists j = lists.map fun p => p.getD j 0 := fun j hj =>
    column_eq_map fun p hp => hj.trans_le (h p hp)
  have hrows : ∀ row ∈ (List.range rounds).map (column lists), row.length = n := by
    intro row hrow
    obtain ⟨j, hj, rfl⟩ := List.mem_map.1 hrow
    rw [hcol j (List.mem_range.1 hj), List.length_map, hn]
  have hb : b < n := hn ▸ (List.getElem?_eq_some_iff.1 hp).1
  exact (Grid.flatten_getElem? hrows hb).trans (by simp [hi, hcol i hi, hp])

/-- A pass whose last round finds only the longer lists, which stand last. -/
theorem roundRobin_ragged {xs ys : List (List Byte)} {k : Nat} (hxs : ∀ p ∈ xs, p.length = k)
    (hys : ∀ p ∈ ys, p.length = k + 1) :
    roundRobin (k + min 1 ys.length) (xs ++ ys) =
      roundRobin k (xs ++ ys) ++ ys.map fun p => p.getD k 0 := by
  have hlast : column (xs ++ ys) k = ys.map fun p => p.getD k 0 := by
    rw [column_append, column_eq_nil fun p hp => (hxs p hp).le, List.nil_append,
      column_eq_map fun p hp => (hys p hp).symm ▸ Nat.lt_succ_self k]
  cases ys with
  | nil => simp
  | cons p ps =>
    rw [← hlast, ← roundRobin_succ, List.length_cons, Nat.min_eq_left (Nat.succ_le_succ ps.length.zero_le)]

/-! ### The interleaved codewords (R183) -/

section
variable {s : State} {v : Nat} {l : BitVec 2}

theorem blockLen_of_lt {b : Nat} (h : b < (firstGroup v l).1) : blockLen v l b = (firstGroup v l).2 :=
  if_pos h

theorem blockLen_of_le {b : Nat} (h : (firstGroup v l).1 ≤ b) : blockLen v l b = (firstGroup v l).2 + 1 :=
  if_neg (Nat.not_lt.2 h)

theorem firstGroup_le_blockLen (v : Nat) (l : BitVec 2) (b : Nat) : (firstGroup v l).2 ≤ blockLen v l b := by
  unfold blockLen
  split <;> omega

theorem length_of_mem_dataBlocks {p : List Byte} (h : p ∈ s.dataBlocks v l) :
    (firstGroup v l).2 ≤ p.length := by
  obtain ⟨b, -, rfl⟩ := List.mem_map.1 h
  rw [State.readBytes_length]
  exact firstGroup_le_blockLen v l b

/-- The data pass: the rounds every block has, then the last codewords of the longer blocks. -/
theorem roundRobin_dataBlocks (hv : v < 11) :
    roundRobin ((blockLengths (vt v l).groups).foldl max 0) (s.dataBlocks v l) =
      roundRobin (firstGroup v l).2 (s.dataBlocks v l) ++
        ((s.dataBlocks v l).drop (firstGroup v l).1).map fun p => p.getD (firstGroup v l).2 0 := by
  obtain ⟨-, -, -, -, hrounds⟩ := vt_blocks v hv l
  have hshort : ∀ p ∈ (s.dataBlocks v l).take (firstGroup v l).1, p.length = (firstGroup v l).2 := by
    intro p hp
    obtain ⟨b, hb, rfl⟩ := List.mem_take_iff_getElem.1 hp
    rw [State.dataBlocks_getElem, State.readBytes_length, blockLen_of_lt (by omega)]
  have hlong : ∀ p ∈ (s.dataBlocks v l).drop (firstGroup v l).1, p.length = (firstGroup v l).2 + 1 := by
    intro p hp
    obtain ⟨j, hj, rfl⟩ := List.mem_drop_iff_getElem.1 hp
    rw [State.dataBlocks_getElem, State.readBytes_length, blockLen_of_le (by omega)]
  have hragged := roundRobin_ragged hshort hlong
  rwa [List.take_append_drop, List.length_drop, State.dataBlocks_length,
    ← hrounds] at hragged

/-- FINALCW in three parts: the full data rounds, the last data round, the parity pass. -/
theorem finalCw_eq (hv : v < 11) :
    finalCw (s.readBytes 0x1400 (ndata v l)) v l =
      (roundRobin (firstGroup v l).2 (s.dataBlocks v l) ++
        ((s.dataBlocks v l).drop (firstGroup v l).1).map fun p => p.getD (firstGroup v l).2 0) ++
      roundRobin (ecpb v l) ((s.dataBlocks v l).map (parity (ecpb v l))) := by
  rw [finalCw, splitBlocks_dataCw hv, roundRobin_dataBlocks hv]

theorem fullRounds_length :
    (roundRobin (firstGroup v l).2 (s.dataBlocks v l)).length = (firstGroup v l).2 * nblocks v l := by
  rw [roundRobin_length fun p hp => length_of_mem_dataBlocks hp, State.dataBlocks_length]

theorem dataPass_length (hv : v < 11) :
    (roundRobin (firstGroup v l).2 (s.dataBlocks v l) ++
      ((s.dataBlocks v l).drop (firstGroup v l).1).map fun p => p.getD (firstGroup v l).2 0).length =
    ndata v l := by
  obtain ⟨-, -, -, hdata, -⟩ := vt_blocks v hv l
  rw [List.length_append, fullRounds_length, List.length_map, List.length_drop, State.dataBlocks_length, hdata]

theorem length_of_mem_parities {p : List Byte} (h : p ∈ (s.dataBlocks v l).map (parity (ecpb v l))) :
    ecpb v l ≤ p.length := by
  obtain ⟨q, -, rfl⟩ := List.mem_map.1 h
  exact (parity_length _ q).ge

theorem finalCw_length (hv : v < 11) : (finalCw (s.readBytes 0x1400 (ndata v l)) v l).length = ntotal v l := by
  rw [finalCw_eq hv, List.length_append, dataPass_length hv, roundRobin_length fun p hp =>
    length_of_mem_parities hp, List.length_map, State.dataBlocks_length, ntotal]

/-- Codeword i of block b, in a round that every block has. -/
theorem finalCw_fullRounds (hv : v < 11) {b i : Nat} (hb : b < nblocks v l) (hi : i < (firstGroup v l).2) :
    (finalCw (s.readBytes 0x1400 (ndata v l)) v l)[i * nblocks v l + b]? =
      some (s.readByte (0x1400 + (blockStart v l b + i))) := by
  have hentry := roundRobin_getElem? (fun p hp => length_of_mem_dataBlocks hp) (s.dataBlocks_length v l) hi
    (s.dataBlocks_getElem? v l hb)
  have hlt := (List.getElem?_eq_some_iff.1 hentry).1
  have hk : i < blockLen v l b := hi.trans_le (firstGroup_le_blockLen v l b)
  rw [finalCw_eq hv, List.append_assoc, List.getElem?_append_left hlt, hentry]
  simp [hk, Nat.add_assoc]

/-- The last codeword of a longer block, in the last data round. -/
theorem finalCw_lastRound (hv : v < 11) {b : Nat} (hlong : (firstGroup v l).1 ≤ b) (hb : b < nblocks v l) :
    (finalCw (s.readBytes 0x1400 (ndata v l)) v l)[(firstGroup v l).2 * nblocks v l +
        (b - (firstGroup v l).1)]? =
      some (s.readByte (0x1400 + (blockStart v l b + (firstGroup v l).2))) := by
  have hk : (firstGroup v l).2 < blockLen v l b := by rw [blockLen_of_le hlong]; omega
  rw [finalCw_eq hv, List.append_assoc, ← fullRounds_length (s := s), List.getElem?_append_right (by omega),
    Nat.add_sub_cancel_left, List.getElem?_append_left (by simp; omega)]
  simp [Nat.add_sub_cancel' hlong, hb, hk, Nat.add_assoc]

/-- Parity codeword j of block b. -/
theorem finalCw_parity (hv : v < 11) {b j : Nat} (hb : b < nblocks v l) (hj : j < ecpb v l) :
    (finalCw (s.readBytes 0x1400 (ndata v l)) v l)[ndata v l + (j * nblocks v l + b)]? =
      some ((parity (ecpb v l) (s.readBytes (0x1400 + blockStart v l b) (blockLen v l b))).getD j 0) := by
  have hentry := roundRobin_getElem? (fun p hp => length_of_mem_parities hp)
    ((List.length_map _).trans (s.dataBlocks_length v l)) hj
    ((List.getElem?_map ..).trans (congrArg _ (s.dataBlocks_getElem? v l hb)))
  rw [finalCw_eq hv, ← hentry, List.getElem?_append_right (by rw [dataPass_length hv]; omega),
    dataPass_length hv, Nat.add_sub_cancel_left]

end

/-! ### The command -/

theorem withVersion_none {s : State} (h : s.noVersion) (k : Nat → Host.Outcome State Fault Refusal) :
    withVersion s k = raise (.plain .badConfig) s := by
  rw [withVersion, State.resolvedVersion_eq_none.2 h]

theorem withVersion_some {s : State} {v : Nat} (h : s.atVersion v)
    (k : Nat → Host.Outcome State Fault Refusal) : withVersion s k = k v := by
  rw [withVersion, State.resolvedVersion_eq_some.2 h]

end Sys2Proof.Machine
end

namespace Sys2Proof.Proofs

open Sys2Proof.Machine

/-- Settles O42: FINALCW is the full data rounds, the last data round and the parity pass, in this order. -/
theorem ecencInterleavesBlocksAndParity : Obligations.EcencInterleavesBlocksAndParity := by
  refine fun s => ⟨fun h => withVersion_none h _, fun v hat => ?_⟩
  have hv : v < 11 := by
    obtain ⟨-, -, hle⟩ := hat
    omega
  obtain ⟨t, hexec, hdone, honly, hframe, hread⟩ := complete_writeBytes s 0x1600
    (finalCw (s.readBytes 0x1400 (ndata v s.config.ecl)) v s.config.ecl)
  refine ⟨t, (withVersion_some hat _).trans hexec, hdone, honly, by rwa [finalCw_length hv] at hframe,
    fun b i hb hi => ?_, fun b hlong hb => ?_, fun b j hb hj => ?_⟩
  · exact State.readByte_of_readBytes hread (finalCw_fullRounds hv hb hi)
  · exact State.readByte_of_readBytes hread (finalCw_lastRound hv hlong hb)
  · exact State.readByte_of_readBytes hread (finalCw_parity hv hb hj)

end Sys2Proof.Proofs

section
/-! PROOFS. Cells of a grid after single-cell updates: one put, one setU, and a list of either (43_matrix.md R200). -/

namespace Sys2Proof.Machine

/-! ### One update -/

/-- A row of a square grid, with its length. -/
theorem Grid.exists_row {g : Grid} {n : Nat} (h : g.square n) {r : Nat} (hr : r < n) :
    ∃ row, g[r]? = some row ∧ row.length = n := by
  have hr' : r < g.length := h.1.symm ▸ hr
  exact ⟨g[r], List.getElem?_eq_getElem hr', h.2 _ (List.getElem_mem hr')⟩

/-- A grid is its cells. -/
theorem Grid.square_ext {g g' : Grid} {n : Nat} (hg : g.square n) (hg' : g'.square n)
    (h : ∀ r c, r < n → c < n → g.at r c = g'.at r c) : g = g' := by
  refine List.ext_getElem (hg.1.trans hg'.1.symm) fun r hr hr' => ?_
  have hrow := hg.2 _ (List.getElem_mem hr)
  have hrow' := hg'.2 _ (List.getElem_mem hr')
  refine List.ext_getElem (hrow.trans hrow'.symm) fun c hc hc' => ?_
  simpa [Grid.at_eq, hr, hr', hc, hc'] using h r c (by rwa [hg.1] at hr) (by rwa [hrow] at hc)

theorem Grid.at_put_same {g : Grid} {n : Nat} (h : g.square n) {r c : Nat} (hr : r < n) (hc : c < n)
    (x : Byte) : (g.put r c x).at r c = x := by
  obtain ⟨row, hrow, hlen⟩ := Grid.exists_row h hr
  simp [Grid.put, Grid.at_eq, hrow, hlen, hc]

theorem Grid.at_put_ne (g : Grid) {r c r' c' : Nat} (h : (r', c') ≠ (r, c)) (x : Byte) :
    (g.put r' c' x).at r c = g.at r c := by
  by_cases hr : r' = r
  · subst hr
    have hc : c' ≠ c := fun hc => h (by rw [hc])
    cases hg : g[r']? <;> simp [Grid.put, Grid.at_eq, hg, hc]
  · simp [Grid.put, Grid.at_eq, hr]

theorem Grid.at_filled {n : Nat} {r c : Nat} (hr : r < n) (hc : c < n) (x : Byte) :
    Grid.at (filled n x) r c = x := by
  simp [Grid.at_eq, filled, hr, hc]

/-! ### A list of puts -/

section
variable {α : Type} {pos : α → Nat × Nat} {val : α → Byte}

/-- Puts leave a cell that is none of theirs. -/
theorem Grid.at_foldl_put_of_notMem (l : List α) (g : Grid) {r c : Nat} (h : (r, c) ∉ l.map pos) :
    Grid.at (l.foldl (fun w a => w.put (pos a).1 (pos a).2 (val a)) g) r c = g.at r c := by
  induction l generalizing g with
  | nil => rfl
  | cons a l ih =>
    rw [List.map_cons, List.mem_cons, not_or] at h
    rw [List.foldl_cons, ih _ h.2, Grid.at_put_ne g (Ne.symm h.1)]

/-- Puts into distinct cells leave each its value. -/
theorem Grid.at_foldl_put_of_mem {l : List α} {g : Grid} {n : Nat} (hg : g.square n)
    (hd : (l.map pos).Nodup) {a : α} (ha : a ∈ l) (hr : (pos a).1 < n) (hc : (pos a).2 < n) :
    Grid.at (l.foldl (fun w a => w.put (pos a).1 (pos a).2 (val a)) g) (pos a).1 (pos a).2 = val a := by
  induction l generalizing g with
  | nil => cases ha
  | cons b l ih =>
    rw [List.map_cons, List.nodup_cons] at hd
    rw [List.foldl_cons]
    rcases List.mem_cons.1 ha with rfl | ha
    · rw [Grid.at_foldl_put_of_notMem l _ hd.1, Grid.at_put_same hg hr hc]
    · exact ih (Grid.square_put hg _ _ _) hd.2 ha

end

/-! ### A list of setU (R200) -/

/-- The call covers cell (r, c). -/
def SetU.covers (u : SetU) (r c : Nat) : Bool := decide (u.r = (r : Int)) && decide (u.c = (c : Int))

theorem SetU.covers_iff {u : SetU} {r c : Nat} : u.covers r c = true ↔ u.r = r ∧ u.c = c := by
  simp [SetU.covers]

/-- The value of the first call that covers cell (r, c). -/
def stamp (ws : List SetU) (r c : Nat) : Option Byte := (ws.find? fun u => u.covers r c).map SetU.x

theorem Grid.at_setU {g : Grid} {n : Nat} (hg : g.square n) (u : SetU) {r c : Nat} (hr : r < n) (hc : c < n) :
    Grid.at (setU n g u) r c = if u.covers r c = true ∧ g.at r c = undet then u.x else g.at r c := by
  obtain ⟨row, hrow, hlen⟩ := Grid.exists_row hg hr
  rw [setU]
  split
  case isTrue hin =>
    by_cases hur : u.r.toNat = r
    · by_cases huc : u.c.toNat = c
      · have hcov : u.covers r c = true := SetU.covers_iff.2 (by omega)
        simp [Grid.at_eq, hur, huc, hrow, hlen, hc, hcov]
      · have hcov : ¬ u.covers r c = true := fun h => huc (by rw [SetU.covers_iff] at h; omega)
        simp [Grid.at_eq, hur, huc, hrow, hlen, hc, hcov]
    · have hcov : ¬ u.covers r c = true := fun h => hur (by rw [SetU.covers_iff] at h; omega)
      simp [Grid.at_eq, hur, hcov]
  case isFalse hout =>
    have hcov : ¬ u.covers r c = true := fun h => hout (by rw [SetU.covers_iff] at h; omega)
    simp [hcov]

/-- The first call that covers a cell decides its value, unless the cell was already determined. -/
theorem Grid.at_foldl_setU (ws : List SetU) (hws : ∀ u ∈ ws, u.x ≠ undet) {g : Grid} {n : Nat}
    (hg : g.square n) {r c : Nat} (hr : r < n) (hc : c < n) :
    Grid.at (ws.foldl (setU n) g) r c =
      if g.at r c = undet then (stamp ws r c).getD undet else g.at r c := by
  induction ws generalizing g with
  | nil => simp [stamp]
  | cons u ws ih =>
    rw [List.forall_mem_cons] at hws
    rw [List.foldl_cons, ih hws.2 (Grid.square_setU hg n u), Grid.at_setU hg u hr hc]
    by_cases hcov : u.covers r c = true
    · by_cases hund : g.at r c = undet
      · simp [stamp, hcov, hund, hws.1]
      · simp [hund]
    · simp [stamp, hcov]

theorem at_foldl_setU_filled {ws : List SetU} (hws : ∀ u ∈ ws, u.x ≠ undet) {n r c : Nat} (hr : r < n)
    (hc : c < n) :
    Grid.at (ws.foldl (setU n) (filled n undet)) r c = (stamp ws r c).getD undet := by
  rw [Grid.at_foldl_setU ws hws (Grid.square_filled n undet) hr hc, Grid.at_filled hr hc, if_pos rfl]

end Sys2Proof.Machine
end

namespace Sys2Proof.Proofs

open Sys2Proof.Machine

/-- Settles O43, by induction on the calls: a later call finds the cell determined. -/
theorem firstStructuralWriteWins : Obligations.FirstStructuralWriteWins := by
  intro n ws r c hr hc hws
  rw [at_foldl_setU_filled hws hr hc, stamp]
  unfold SetU.covers
  cases ws.find? fun u => decide (u.r = (r : Int)) && decide (u.c = (c : Int)) <;> rfl

end Sys2Proof.Proofs

section
/-! PROOFS. Storing the grids of GRID and MASKMAP together, and BUILDSTRUCT (43_matrix.md R213). -/

namespace Sys2Proof.Machine

/-- The buffers GRID and MASKMAP do not meet for a supported version: a cell of GRID is no byte of MASKMAP. -/
theorem State.readByte_writeGrid_maskMap (s : State) {m : Grid} {v : Nat} (hv : v ≤ 10)
    (hm : m.square (gridSide v)) {r c : Nat} (hr : r < gridSide v) (hc : c < gridSide v) :
    (s.writeGrid .maskMap m).gridCell (gridSide v) r c = s.gridCell (gridSide v) r c := by
  have hlt := (cell_index_lt hr hc).trans_le (gridSide_sq_le hv)
  exact s.readByte_writeGrid_outside .maskMap hm (.inl (by simp only [Buf.base]; omega))

/-- Completing with both grids stored: what every cell and every other byte then reads (R302). -/
theorem complete_writeGrids (s : State) {g m : Grid} {v : Nat} (hv : v ≤ 10) (hg : g.square (gridSide v))
    (hm : m.square (gridSide v)) :
    ∃ t, complete ((s.writeGrid .grid g).writeGrid .maskMap m) = .next t ∧ s.completedTo t ∧
      onlyMemory s t ∧ sameBytesOutsideGrids s t (gridSide v) ∧
      ∀ r c, r < gridSide v → c < gridSide v →
        t.gridCell (gridSide v) r c = g.at r c ∧ t.mapCell (gridSide v) r c = m.at r c := by
  refine ⟨_, complete_eq _, ⟨rfl, rfl⟩, rfl, fun a hgrid hmap => ?_, fun r c hr hc => ⟨?_, ?_⟩⟩
  · exact (State.readByte_writeGrid_outside _ .maskMap hm hmap).trans
      (s.readByte_writeGrid_outside .grid hg hgrid)
  · exact (State.readByte_writeGrid_maskMap _ hv hm hr hc).trans
      (s.readByte_writeGrid_inside .grid hg hr hc)
  · exact State.readByte_writeGrid_inside _ .maskMap hm hr hc

end Sys2Proof.Machine
end

namespace Sys2Proof.Proofs

open Sys2Proof.Machine

/-- Settles O47: the command stores the structural grid and a grid of zeros. -/
theorem buildstructWritesTheStructure : Obligations.BuildstructWritesTheStructure := by
  refine fun s => ⟨fun h => withVersion_none h _, fun v hat => ?_⟩
  have hv : v ≤ 10 := hat.2.2
  obtain ⟨t, hexec, hdone, honly, hframe, hcells⟩ :=
    complete_writeGrids s hv (buildGrid_square v) (Grid.square_filled (gridSide v) 0)
  refine ⟨t, (withVersion_some hat _).trans hexec, hdone, honly, fun r c hr hc => ?_, hframe⟩
  rw [← Grid.at_filled hr hc 0]
  exact hcells r c hr hc

end Sys2Proof.Proofs

section
/-! PROOFS. The placement path (43_matrix.md R209): the model's loop yields the pairs of columns of Safety.lean, so
the path is a run of 2n cells for each pair, two for each row. -/

namespace Sys2Proof.Machine

/-- A cell of runs of equal length m, laid end to end. -/
theorem getElem?_flatMap_range {α : Type} {f : Nat → List α} {m : Nat} (hf : ∀ i, (f i).length = m)
    {k i j : Nat} (hi : i < k) (hj : j < m) : ((List.range k).flatMap f)[i * m + j]? = (f i)[j]? := by
  induction k with
  | zero => omega
  | succ k ih =>
    have hlen : ((List.range k).flatMap f).length = k * m := by simp [List.length_flatMap, hf]
    rw [List.range_succ, List.flatMap_append, List.flatMap_singleton]
    rcases Nat.lt_succ_iff_lt_or_eq.1 hi with hlt | rfl
    · have hidx : i * m + j < k * m := by nlinarith
      rw [List.getElem?_append_left (by omega), ih hlt]
    · rw [List.getElem?_append_right (by omega), hlen, Nat.add_sub_cancel_left]

/-- The loop of R209 goes through the pairs in order, upward in the even ones. -/
theorem pairColumns_eq : ∀ v < 11, 1 ≤ v → pairColumns (gridSide v) (gridSide v - 1) true =
    (List.range ((gridSide v - 1) / 2)).map fun k => (pairColumn (gridSide v) k, k % 2 == 0) := by
  decide +kernel

/-- The two cells of step s of the k-th pair: the right one, then the left one. -/
def pairCells (n k s : Nat) : List (Nat × Nat) :=
  [(pairRow n k s, pairColumn n k), (pairRow n k s, pairColumn n k - 1)]

theorem path_eq {v : Nat} (hv : 1 ≤ v) (hv' : v ≤ 10) :
    path (gridSide v) = (List.range ((gridSide v - 1) / 2)).flatMap fun k =>
      (List.range (gridSide v)).flatMap fun s => pairCells (gridSide v) k s := by
  rw [path, pairColumns_eq v (by omega) hv, List.flatMap_map]
  simp [pairCells, pairRow]

variable {v : Nat}

theorem pairRun_length (n k : Nat) : ((List.range n).flatMap fun s => pairCells n k s).length = n * 2 := by
  simp [List.length_flatMap, pairCells]

theorem path_length (hv : 1 ≤ v) (hv' : v ≤ 10) :
    (path (gridSide v)).length = gridSide v * (gridSide v - 1) := by
  have hn : (gridSide v - 1) / 2 * 2 = gridSide v - 1 := by unfold gridSide; omega
  calc (path (gridSide v)).length = (gridSide v - 1) / 2 * (gridSide v * 2) := by
        simp [path_eq hv hv', List.length_flatMap, pairCells]
    _ = gridSide v * ((gridSide v - 1) / 2 * 2) := by ring
    _ = gridSide v * (gridSide v - 1) := by rw [hn]

theorem path_getElem? (hv : 1 ≤ v) (hv' : v ≤ 10) {k s j : Nat} (hk : k < (gridSide v - 1) / 2)
    (hs : s < gridSide v) (hj : j < 2) :
    (path (gridSide v))[2 * (k * gridSide v + s) + j]? = (pairCells (gridSide v) k s)[j]? := by
  have hidx : 2 * (k * gridSide v + s) + j = k * (gridSide v * 2) + (s * 2 + j) := by ring
  rw [path_eq hv hv', hidx, getElem?_flatMap_range (pairRun_length _) hk (by omega),
    getElem?_flatMap_range (m := 2) (fun _ => rfl) hs hj]

/-- Every column but 6 belongs to a pair. -/
theorem mem_path_iff (hv : 1 ≤ v) (hv' : v ≤ 10) (r c : Nat) :
    (r, c) ∈ path (gridSide v) ↔ r < gridSide v ∧ c < gridSide v ∧ c ≠ 6 := by
  have hn : gridSide v % 2 = 1 ∧ 21 ≤ gridSide v := by unfold gridSide; omega
  rw [path_eq hv hv']
  generalize gridSide v = n at hn
  simp only [List.mem_flatMap, List.mem_range, pairCells, List.mem_cons, List.not_mem_nil, or_false,
    Prod.mk.injEq, pairRow, pairColumn]
  constructor
  · rintro ⟨k, hk, s, hs, h | h⟩ <;> split_ifs at h <;> omega
  · rintro ⟨hr, hc, h6⟩
    refine ⟨if 6 < c then (n - 1 - c) / 2 else (n - 2 - c) / 2, by split <;> omega, ?_⟩
    generalize hk : (if 6 < c then (n - 1 - c) / 2 else (n - 2 - c) / 2) = k
    refine ⟨if k % 2 = 0 then n - 1 - r else r, by split <;> omega, ?_⟩
    split_ifs at hk ⊢ <;> omega

/-- The path has as many entries as it has members. -/
theorem path_nodup (hv : 1 ≤ v) (hv' : v ≤ 10) : (path (gridSide v)).Nodup := by
  have hset : (path (gridSide v)).toFinset =
      Finset.range (gridSide v) ×ˢ (Finset.range (gridSide v)).erase 6 := by
    ext ⟨r, c⟩
    rw [List.mem_toFinset, mem_path_iff hv hv']
    simp [and_comm]
  have h6 : 6 ∈ Finset.range (gridSide v) := by simp [gridSide]; omega
  rw [← Multiset.coe_nodup, ← Multiset.toFinset_card_eq_card_iff_nodup]
  change (path (gridSide v)).toFinset.card = (path (gridSide v)).length
  rw [hset, Finset.card_product, Finset.card_erase_of_mem h6, Finset.card_range, path_length hv hv']

end Sys2Proof.Machine
end

namespace Sys2Proof.Proofs

open Sys2Proof.Machine

/-- Settles O46: the path is the runs of its pairs of columns. -/
theorem pathVisitsEachCellOnce : Obligations.PathVisitsEachCellOnce := by
  intro v hv hv'
  refine ⟨path_nodup hv hv', mem_path_iff hv hv', path_length hv hv', fun k s hk hs => ⟨?_, ?_⟩⟩
  · exact path_getElem? hv hv' hk hs (j := 0) (by decide)
  · exact path_getElem? hv hv' hk hs (j := 1) (by decide)

end Sys2Proof.Proofs

section
/-! PROOFS. PLACEDATA (43_matrix.md R210, R211, R214): what its checks say cell by cell, and what every cell of the
two grids holds after the placement. -/

namespace Sys2Proof.Machine

/-! ### The checks (R214) -/

/-- The entries of the rows are the cells. -/
theorem Grid.forall_mem_iff {g : Grid} {n : Nat} (hg : g.square n) (p : Byte → Prop) :
    (∀ row ∈ g, ∀ x ∈ row, p x) ↔ ∀ r c, r < n → c < n → p (g.at r c) := by
  constructor
  · intro h r c hr hc
    obtain ⟨row, hrow, hcols⟩ := Grid.exists_row hg hr
    have hc : c < row.length := hcols.symm ▸ hc
    simpa [Grid.at_eq, hrow, hc] using h row (List.mem_of_getElem? hrow) row[c] (List.getElem_mem hc)
  · intro h row hrow x hx
    obtain ⟨r, hr, rfl⟩ := List.getElem_of_mem hrow
    obtain ⟨c, hc, rfl⟩ := List.getElem_of_mem hx
    have hcn : c < n := by rwa [hg.2 _ hrow] at hc
    simpa [Grid.at_eq, hr, hc] using h r c (by rwa [hg.1] at hr) hcn

theorem Grid.allCells_iff {g : Grid} {n : Nat} (hg : g.square n) (p : Byte → Bool) :
    g.allCells p = true ↔ ∀ r c, r < n → c < n → p (g.at r c) = true := by
  rw [← Grid.forall_mem_iff hg fun x => p x = true]
  simp only [Grid.allCells, List.all_eq_true]

theorem placeable_iff {g : Grid} {v : Nat} (hg : g.square (gridSide v)) (l : BitVec 2) :
    placeable g v l = true ↔
      (∀ r c, r < gridSide v → c < gridSide v → (g.at r c).toNat ≤ 2) ∧
      (∀ r, r < gridSide v → g.at r 6 ≠ undet) ∧ g.countCells undet = 8 * ntotal v l + remCells v := by
  simp [placeable, Grid.allCells_iff hg, and_assoc]

/-! ### The stream (R210) -/

/-- One bit of a byte, as a cell. -/
theorem shiftRight_and_one (b : Byte) (i : Nat) : (b >>> i) &&& 1 = if b.getLsbD i = true then 1 else 0 := by
  rw [BitVec.ofNat_eq_ofNat, BitVec.and_one_eq_setWidth_ofBool_getLsbD]
  cases hb : b.getLsbD i <;> simp [hb]

theorem streamBit_readBytes (s : State) (total k : Nat) :
    streamBit (s.readBytes 0x1600 total) total k =
      if k < 8 * total ∧ (s.readByte (0x1600 + k / 8)).getLsbD (7 - k % 8) = true then 1 else 0 := by
  rw [streamBit]
  by_cases hk : k < 8 * total
  · have hbyte : (s.readBytes 0x1600 total).getD (k / 8) 0 = s.readByte (0x1600 + k / 8) := by
      have hlt : k / 8 < total := by omega
      simp [List.getD_eq_getElem?_getD, State.readBytes, hlt]
    rw [if_pos hk, hbyte, shiftRight_and_one]
    simp only [hk, true_and]
  · simp [hk]

/-- The cell value is Light or Dark (R48). -/
abbrev isLightOrDark (x : Byte) : Prop := x = light ∨ x = dark

theorem lightOrDark_ne_undet {x : Byte} (h : isLightOrDark x) : x ≠ undet := by
  rcases h with rfl | rfl <;> decide

theorem streamBit_lightOrDark (fcw : List Byte) (total k : Nat) : isLightOrDark (streamBit fcw total k) := by
  rw [streamBit, shiftRight_and_one]
  split_ifs
  · exact .inr rfl
  · exact .inl rfl
  · exact .inl rfl

/-! ### The cells placed (R211) -/

section
variable {g : Grid} {v : Nat}

theorem mem_placedCells_iff (hv : 1 ≤ v) (hv' : v ≤ 10) {r c : Nat} :
    (r, c) ∈ placedCells g (gridSide v) ↔
      (r < gridSide v ∧ c < gridSide v ∧ c ≠ 6) ∧ g.at r c = undet := by
  simp [placedCells, mem_path_iff hv hv']

theorem placedCells_nodup (hv : 1 ≤ v) (hv' : v ≤ 10) : (placedCells g (gridSide v)).Nodup :=
  (path_nodup hv hv').filter _

theorem at_placeGrid_placed (hg : g.square (gridSide v)) (hv : 1 ≤ v) (hv' : v ≤ 10) (fcw : List Byte)
    (total : Nat) {k : Nat} {p : Nat × Nat} (hp : (placedCells g (gridSide v))[k]? = some p) :
    Grid.at (placeGrid g (gridSide v) fcw total) p.1 p.2 = streamBit fcw total k := by
  obtain ⟨⟨hr, hc, -⟩, -⟩ := (mem_placedCells_iff hv hv').1 (List.mem_of_getElem? hp)
  exact Grid.at_foldl_put_of_mem (pos := Prod.fst) (val := fun a => streamBit fcw total a.2) hg
    (by rw [List.zipIdx_map_fst]; exact placedCells_nodup hv hv')
    (List.mk_mem_zipIdx_iff_getElem?.2 hp) hr hc

theorem at_placeMap_placed (hv : 1 ≤ v) (hv' : v ≤ 10) {p : Nat × Nat}
    (hp : p ∈ placedCells g (gridSide v)) : Grid.at (placeMap g (gridSide v)) p.1 p.2 = 1 := by
  obtain ⟨⟨hr, hc, -⟩, -⟩ := (mem_placedCells_iff hv hv').1 hp
  exact Grid.at_foldl_put_of_mem (pos := id) (val := fun _ => 1) (Grid.square_filled _ 0)
    (by rw [List.map_id]; exact placedCells_nodup hv hv') hp hr hc

theorem notMem_placedCells {r c n : Nat} (h : g.at r c ≠ undet) : (r, c) ∉ placedCells g n := by
  simp [placedCells, h]

theorem at_placeGrid_kept {r c n : Nat} (h : g.at r c ≠ undet) (fcw : List Byte) (total : Nat) :
    Grid.at (placeGrid g n fcw total) r c = g.at r c :=
  Grid.at_foldl_put_of_notMem (pos := Prod.fst) (val := fun a => streamBit fcw total a.2) _ g
    (by rw [List.zipIdx_map_fst]; exact notMem_placedCells h)

theorem at_placeMap_kept {r c n : Nat} (h : g.at r c ≠ undet) (hr : r < n) (hc : c < n) :
    Grid.at (placeMap g n) r c = 0 := by
  rw [← Grid.at_filled hr hc 0]
  exact Grid.at_foldl_put_of_notMem (pos := id) (val := fun _ => 1) _ _
    (by rw [List.map_id]; exact notMem_placedCells h)

/-- A byte up to 2 that is not UNDET is Light or Dark (R48). -/
theorem lightOrDark_of_le_two : ∀ x : Byte, x.toNat ≤ 2 → x ≠ undet → isLightOrDark x := by decide +kernel

/-- After a placement on a grid that passes the checks every cell is Light or Dark. -/
theorem placeGrid_lightOrDark (hg : g.square (gridSide v)) (hv : 1 ≤ v) (hv' : v ≤ 10)
    (hle : ∀ r c, r < gridSide v → c < gridSide v → (g.at r c).toNat ≤ 2)
    (h6 : ∀ r, r < gridSide v → g.at r 6 ≠ undet) (fcw : List Byte) (total : Nat) {r c : Nat}
    (hr : r < gridSide v) (hc : c < gridSide v) :
    isLightOrDark (Grid.at (placeGrid g (gridSide v) fcw total) r c) := by
  by_cases hund : g.at r c = undet
  · have hcol : c ≠ 6 := by rintro rfl; exact h6 r hr hund
    obtain ⟨k, hk⟩ := List.mem_iff_getElem?.1 ((mem_placedCells_iff hv hv').2 ⟨⟨hr, hc, hcol⟩, hund⟩)
    rw [at_placeGrid_placed hg hv hv' fcw total hk]
    exact streamBit_lightOrDark fcw total k
  · rw [at_placeGrid_kept hund]
    exact lightOrDark_of_le_two _ (hle r c hr hc) hund

end

/-! ### The command -/

section
variable {s : State} {v : Nat}

theorem execPlacedata_refuses (hat : s.atVersion v)
    (h : ¬ placeable (s.readGrid .grid (gridSide v)) v s.config.ecl = true) :
    exec .placedata s = .next (s.failed (.plain .badCell)) :=
  (withVersion_some hat _).trans (if_neg h)

theorem execPlacedata_places (hat : s.atVersion v)
    (h : placeable (s.readGrid .grid (gridSide v)) v s.config.ecl = true) :
    exec .placedata s = complete ((s.writeGrid .grid (placeGrid (s.readGrid .grid (gridSide v)) (gridSide v)
      (s.readBytes 0x1600 (ntotal v s.config.ecl)) (ntotal v s.config.ecl))).writeGrid .maskMap
        (placeMap (s.readGrid .grid (gridSide v)) (gridSide v))) :=
  (withVersion_some hat _).trans (if_pos h)

/-- The checks as conditions on the bytes of GRID. -/
theorem placeable_readGrid_iff (s : State) {v : Nat} (hv : 1 ≤ v) :
    placeable (s.readGrid .grid (gridSide v)) v s.config.ecl = true ↔
      (∀ r c, r < gridSide v → c < gridSide v → (s.gridCell (gridSide v) r c).toNat ≤ 2) ∧
      (∀ r, r < gridSide v → s.gridCell (gridSide v) r 6 ≠ 2) ∧
      (s.readGrid .grid (gridSide v)).countCells 2 = 8 * ntotal v s.config.ecl + remCells v := by
  have h6 : 6 < gridSide v := by unfold gridSide; omega
  rw [placeable_iff (s.readGrid_square .grid _)]
  refine and_congr ?_ (and_congr ?_ Iff.rfl)
  · exact forall₄_congr fun r c hr hc => by rw [s.gridCell_eq hr hc]
  · exact forall₂_congr fun r hr => by rw [s.gridCell_eq hr h6]; rfl

/-- The cells placed are the UNDET bytes of GRID along the path. -/
theorem placedCells_readGrid (s : State) (hv : 1 ≤ v) (hv' : v ≤ 10) :
    placedCells (s.readGrid .grid (gridSide v)) (gridSide v) =
      (path (gridSide v)).filter fun q => decide (s.gridCell (gridSide v) q.1 q.2 = 2) := by
  refine List.filter_congr fun q hq => ?_
  obtain ⟨hr, hc, -⟩ := (mem_path_iff hv hv' q.1 q.2).1 hq
  rw [s.gridCell_eq hr hc]
  rfl

end

end Sys2Proof.Machine
end

namespace Sys2Proof.Proofs

open Sys2Proof.Machine

/-- Settles O48: a cell of the path that is UNDET is placed, every other cell is kept. -/
theorem placedataPlacesTheStream : Obligations.PlacedataPlacesTheStream := by
  refine fun s => ⟨fun h => withVersion_none h _, fun v hat => ?_⟩
  obtain ⟨-, hv, hv'⟩ := id hat
  have hchecks := placeable_readGrid_iff s hv
  refine ⟨fun hbad => execPlacedata_refuses hat fun hok => ?_, fun hle h6 hcount => ?_⟩
  · obtain ⟨hle, h6, hcount⟩ := hchecks.1 hok
    rcases hbad with ⟨r, c, hr, hc, hgt⟩ | ⟨r, hr, hund⟩ | hne
    · exact absurd (hle r c hr hc) (by omega)
    · exact h6 r hr hund
    · exact hne hcount
  · have hg := s.readGrid_square .grid (gridSide v)
    obtain ⟨t, hexec, hdone, honly, hframe, hcells⟩ :=
      complete_writeGrids s hv' (placeGrid_square hg (s.readBytes 0x1600 (ntotal v s.config.ecl))
        (ntotal v s.config.ecl)) (placeMap_square (s.readGrid .grid (gridSide v)) (gridSide v))
    refine ⟨t, (execPlacedata_places hat (hchecks.2 ⟨hle, h6, hcount⟩)).trans hexec, hdone, honly, hframe,
      fun k p hp => ?_, fun r c hr hc hkept => ?_, fun r c hr hc => ?_⟩
    · rw [← placedCells_readGrid s hv hv'] at hp
      have hmem := List.mem_of_getElem? hp
      obtain ⟨⟨hr, hc, -⟩, -⟩ := (mem_placedCells_iff hv hv').1 hmem
      obtain ⟨hgrid, hmap⟩ := hcells p.1 p.2 hr hc
      rw [hgrid, hmap, at_placeGrid_placed hg hv hv' _ _ hp, at_placeMap_placed hv hv' hmem,
        streamBit_readBytes]
      exact ⟨rfl, rfl⟩
    · obtain ⟨hgrid, hmap⟩ := hcells r c hr hc
      rw [s.gridCell_eq hr hc] at hkept ⊢
      rw [hgrid, hmap, at_placeGrid_kept hkept, at_placeMap_kept hkept hr hc]
      exact ⟨rfl, rfl⟩
    · obtain ⟨hle, h6, -⟩ := (placeable_iff hg s.config.ecl).1 (hchecks.2 ⟨hle, h6, hcount⟩)
      rw [(hcells r c hr hc).1]
      exact lightOrDark_ne_undet (placeGrid_lightOrDark hg hv hv' hle h6 _ _ hr hc)

end Sys2Proof.Proofs

section
/-! PROOFS. The structural phase (43_matrix.md R201 to R208) as regions of the grid: which cells each group of calls
covers and with what value, and so what every pattern's cell holds. -/

namespace Sys2Proof.Machine

/-! ### The first call that covers a cell -/

theorem stamp_append (us ws : List SetU) (r c : Nat) :
    stamp (us ++ ws) r c = (stamp us r c).or (stamp ws r c) := by
  simp [stamp, List.find?_append, Option.map_or]

@[simp] theorem stamp_nil (r c : Nat) : stamp [] r c = none := rfl

theorem stamp_eq_none {ws : List SetU} {r c : Nat} (h : ∀ u ∈ ws, ¬ u.covers r c = true) :
    stamp ws r c = none := by
  rw [stamp, List.find?_eq_none.2 h, Option.map_none]

/-- Calls that agree on a cell: it does not matter which comes first. -/
theorem stamp_eq_some {ws : List SetU} {r c : Nat} {x : Byte} (hcov : ∃ u ∈ ws, u.covers r c = true)
    (hx : ∀ u ∈ ws, u.covers r c = true → u.x = x) : stamp ws r c = some x := by
  obtain ⟨u, hu⟩ := Option.isSome_iff_exists.1 (List.find?_isSome.2 hcov)
  rw [stamp, hu, Option.map_some, hx u (List.mem_of_find?_eq_some hu)
    (List.find?_some (p := fun u : SetU => u.covers r c) hu)]

theorem stamp_eq_ite {ws : List SetU} {r c : Nat} {x : Byte} {P : Prop} [Decidable P]
    (hP : (∃ u ∈ ws, u.covers r c = true) ↔ P) (hx : ∀ u ∈ ws, u.covers r c = true → u.x = x) :
    stamp ws r c = if P then some x else none := by
  split
  case isTrue h => exact stamp_eq_some (hP.2 h) hx
  case isFalse h => exact stamp_eq_none fun u hu hcov => h (hP.1 ⟨u, hu, hcov⟩)

/-! ### Squares -/

theorem mem_square_iff {k : Nat} {r0 c0 : Int} {f : Nat → Nat → Byte} {u : SetU} :
    u ∈ square k r0 c0 f ↔ ∃ dr < k, ∃ dc < k, u = ⟨r0 + dr, c0 + dc, f dr dc⟩ := by
  simp [square, eq_comm]

theorem stamp_square (k : Nat) (r0 c0 : Int) (f : Nat → Nat → Byte) (r c : Nat) :
    stamp (square k r0 c0 f) r c =
      if (r0 ≤ r ∧ r < r0 + k) ∧ (c0 ≤ c ∧ c < c0 + k) then some (f (r - r0).toNat (c - c0).toNat)
      else none := by
  refine stamp_eq_ite ⟨?_, fun h => ?_⟩ ?_
  · rintro ⟨u, hu, hcov⟩
    obtain ⟨dr, hdr, dc, hdc, rfl⟩ := mem_square_iff.1 hu
    rw [SetU.covers_iff] at hcov
    dsimp only at hcov
    omega
  · exact ⟨_, mem_square_iff.2 ⟨(r - r0).toNat, by omega, (c - c0).toNat, by omega, rfl⟩,
      SetU.covers_iff.2 (by dsimp only; omega)⟩
  · intro u hu hcov
    obtain ⟨dr, hdr, dc, hdc, rfl⟩ := mem_square_iff.1 hu
    rw [SetU.covers_iff] at hcov
    dsimp only at hcov
    have hdr' : (r - r0).toNat = dr := by omega
    have hdc' : (c - c0).toNat = dc := by omega
    rw [hdr', hdc']

/-! ### Finders, separators and timing (R202, R203, R204) -/

/-- Cell (r, c) lies in one of the three corner squares of side k. -/
abbrev inCorner (n k r c : Nat) : Prop :=
  (r < k ∨ n - k ≤ r) ∧ (c < k ∨ n - k ≤ c) ∧ ¬ (n - k ≤ r ∧ n - k ≤ c)

/-- A row or column inside its corner square of side 7. -/
def cornerIndex (n x : Nat) : Nat := if x < 7 then x else x - (n - 7)

/-- The finder's cell (dr, dc) (R202). -/
def finderCell (dr dc : Nat) : Byte := if ring 3 dr dc = 2 then light else dark

section
variable {n r c : Nat}

theorem stamp_finders (hn : 14 ≤ n) (hr : r < n) (hc : c < n) :
    stamp (finders n) r c =
      if inCorner n 7 r c then some (finderCell (cornerIndex n r) (cornerIndex n c)) else none := by
  have hlist : finders n = square 7 0 0 finderCell ++ (square 7 0 ((n : Int) - 7) finderCell ++
      (square 7 ((n : Int) - 7) 0 finderCell ++ [])) := rfl
  rw [hlist, stamp_append, stamp_append, stamp_append, stamp_square, stamp_square, stamp_square]
  have hlow : ∀ x : Nat, x < 7 → ((x : Int) - 0).toNat = cornerIndex n x := fun x hx => by
    rw [cornerIndex, if_pos hx]; omega
  have hhigh : ∀ x : Nat, n - 7 ≤ x → ((x : Int) - ((n : Int) - 7)).toNat = cornerIndex n x := fun x hx => by
    rw [cornerIndex, if_neg (by omega)]; omega
  by_cases hin : inCorner n 7 r c
  · rw [if_pos hin]
    obtain ⟨hr7, hc7, hboth⟩ := hin
    rcases hr7 with hr7 | hr7 <;> rcases hc7 with hc7 | hc7
    · rw [if_pos (by omega), hlow r hr7, hlow c hc7]; rfl
    · rw [if_neg (by omega), if_pos (by omega), hlow r hr7, hhigh c hc7]; rfl
    · rw [if_neg (by omega), if_neg (by omega), if_pos (by omega), hhigh r hr7, hlow c hc7]; rfl
    · exact absurd ⟨hr7, hc7⟩ hboth
  · rw [if_neg hin, if_neg (by omega), if_neg (by omega), if_neg (by omega)]; rfl

theorem stamp_separators (hn : 16 ≤ n) (hr : r < n) (hc : c < n) :
    stamp (separators n) r c = if inCorner n 8 r c then some light else none := by
  have hlist : separators n = square 9 (0 - 1) (0 - 1) (fun _ _ => light) ++
      (square 9 (0 - 1) ((n : Int) - 7 - 1) (fun _ _ => light) ++
      (square 9 ((n : Int) - 7 - 1) (0 - 1) (fun _ _ => light) ++ [])) := rfl
  rw [hlist, stamp_append, stamp_append, stamp_append, stamp_square, stamp_square, stamp_square]
  by_cases hin : inCorner n 8 r c
  · rw [if_pos hin]
    obtain ⟨hr8, hc8, hboth⟩ := hin
    rcases hr8 with hr8 | hr8 <;> rcases hc8 with hc8 | hc8
    · rw [if_pos (by omega)]; rfl
    · rw [if_neg (by omega), if_pos (by omega)]; rfl
    · rw [if_neg (by omega), if_neg (by omega), if_pos (by omega)]; rfl
    · exact absurd ⟨hr8, hc8⟩ hboth
  · rw [if_neg hin, if_neg (by omega), if_neg (by omega), if_neg (by omega)]; rfl

/-- Row 6 and column 6 alternate, and 6 is even. -/
theorem stamp_timing (hr : r < n) (hc : c < n) :
    stamp (timing n) r c =
      if r = 6 ∨ c = 6 then some (if (r + c) % 2 = 0 then dark else light) else none := by
  have hmem : ∀ u : SetU, u ∈ timing n ↔
      ∃ k < n, u = ⟨6, (k : Int), if (k : Int) % 2 = 0 then dark else light⟩ ∨
        u = ⟨(k : Int), 6, if (k : Int) % 2 = 0 then dark else light⟩ := by simp [timing]
  refine stamp_eq_ite ⟨?_, ?_⟩ ?_
  · rintro ⟨u, hu, hcov⟩
    obtain ⟨k, -, rfl | rfl⟩ := (hmem u).1 hu <;> rw [SetU.covers_iff] at hcov <;> dsimp only at hcov <;> omega
  · rintro (rfl | rfl)
    · exact ⟨_, (hmem _).2 ⟨c, hc, .inl rfl⟩, SetU.covers_iff.2 ⟨rfl, rfl⟩⟩
    · exact ⟨_, (hmem _).2 ⟨r, hr, .inr rfl⟩, SetU.covers_iff.2 ⟨rfl, rfl⟩⟩
  · intro u hu hcov
    obtain ⟨k, -, rfl | rfl⟩ := (hmem u).1 hu <;> rw [SetU.covers_iff] at hcov <;> dsimp only at hcov ⊢ <;>
      exact if_congr (by omega) rfl rfl

end

/-! ### Alignment patterns (R56, R205) -/

/-- The cell (dr, dc) of an alignment pattern (R205). -/
def alignCell (dr dc : Nat) : Byte := if ring 2 dr dc = 1 then light else dark

/-- A coordinate of a drawn centre is 6, the last position of R56, or far from both; it is even. -/
abbrev isCentrePosition (v x : Nat) : Prop :=
  x % 2 = 0 ∧ (x = 6 ∨ (18 ≤ x ∧ x = gridSide v - 7) ∨ (22 ≤ x ∧ x + 23 ≤ gridSide v))

theorem alignCentres_bounds : ∀ v < 11, ∀ p ∈ alignCentres v,
    isCentrePosition v p.1 ∧ isCentrePosition v p.2 ∧ ¬ (p.1 = 6 ∧ p.2 = 6) ∧
      ¬ (p.1 = 6 ∧ p.2 = gridSide v - 7) ∧ ¬ (p.1 = gridSide v - 7 ∧ p.2 = 6) := by
  decide +kernel

/-- No two patterns meet. -/
theorem alignCentres_apart : ∀ v < 11, ∀ p ∈ alignCentres v, ∀ q ∈ alignCentres v,
    p.1 ≤ q.1 + 4 → q.1 ≤ p.1 + 4 → p.2 ≤ q.2 + 4 → q.2 ≤ p.2 + 4 → p = q := by
  decide +kernel

/-- The overlap test skips exactly the three centres that R205 names. -/
theorem mem_alignCentres_of_drawn {v r c : Nat} (hv : v < 11) (h : drawnCentre v r c) :
    (r, c) ∈ alignCentres v := by
  have hall : ∀ v < 11, ∀ r ∈ alignRow.getD v [], ∀ c ∈ alignRow.getD v [], drawnCentre v r c →
      (r, c) ∈ alignCentres v := by decide +kernel
  exact hall v hv r h.1 c h.2.1 h

section
variable {v r c : Nat}

/-- A call of the alignment patterns that covers a cell belongs to a centre at most 2 away in both directions. -/
theorem exists_centre_of_covers {u : SetU} (hu : u ∈ alignment v)
    (hcov : u.covers r c = true) :
    ∃ p ∈ alignCentres v, ∃ dr < 5, ∃ dc < 5, r + 2 = p.1 + dr ∧ c + 2 = p.2 + dc ∧ u.x = alignCell dr dc := by
  obtain ⟨p, hp, hu⟩ := List.mem_flatMap.1 hu
  obtain ⟨dr, hdr, dc, hdc, rfl⟩ := mem_square_iff.1 hu
  rw [SetU.covers_iff] at hcov
  dsimp only at hcov
  exact ⟨p, hp, dr, hdr, dc, hdc, by omega, by omega, rfl⟩

theorem stamp_alignment_none
    (h : ∀ p ∈ alignCentres v, r + 2 < p.1 ∨ p.1 + 2 < r ∨ c + 2 < p.2 ∨ p.2 + 2 < c) :
    stamp (alignment v) r c = none := by
  refine stamp_eq_none fun u hu hcov => ?_
  obtain ⟨p, hp, dr, hdr, dc, hdc, hr, hc, -⟩ := exists_centre_of_covers hu hcov
  have := h p hp
  omega

theorem stamp_alignment_some (hv : v < 11) (hp : (r, c) ∈ alignCentres v) {dr dc : Nat} (hdr : dr < 5)
    (hdc : dc < 5) : stamp (alignment v) (r - 2 + dr) (c - 2 + dc) = some (alignCell dr dc) := by
  obtain ⟨hrow, hcol, -⟩ := alignCentres_bounds v hv _ hp
  refine stamp_eq_some ⟨_, List.mem_flatMap.2 ⟨_, hp, mem_square_iff.2 ⟨dr, hdr, dc, hdc, rfl⟩⟩,
    SetU.covers_iff.2 (by dsimp only; omega)⟩ fun u hu hcov => ?_
  obtain ⟨q, hq, dr', hdr', dc', hdc', hr, hc, hx⟩ := exists_centre_of_covers hu hcov
  obtain rfl : (r, c) = q := alignCentres_apart v hv _ hp _ hq (by dsimp only; omega) (by dsimp only; omega)
    (by dsimp only; omega) (by dsimp only; omega)
  have hdr : dr' = dr := by dsimp only at hr; omega
  have hdc : dc' = dc := by dsimp only at hc; omega
  rw [hx, hdr, hdc]

end

/-! ### Reserved cells and the dark module (R206, R207, R208) -/

theorem stamp_reserve {cells : List ((Nat × Nat) × Nat)} {r c : Nat} {P : Prop} [Decidable P]
    (hP : (∃ i, ((r, c), i) ∈ cells) ↔ P) :
    stamp (reserve cells) r c = if P then some light else none := by
  refine stamp_eq_ite (Iff.trans ⟨?_, ?_⟩ hP) ?_
  · rintro ⟨u, hu, hcov⟩
    obtain ⟨⟨⟨r', c'⟩, i⟩, hp, rfl⟩ := List.mem_map.1 hu
    obtain ⟨hr, hc⟩ := SetU.covers_iff.1 hcov
    obtain rfl : r' = r := Int.ofNat_inj.1 hr
    obtain rfl : c' = c := Int.ofNat_inj.1 hc
    exact ⟨i, hp⟩
  · rintro ⟨i, hp⟩
    exact ⟨_, List.mem_map.2 ⟨_, hp, rfl⟩, SetU.covers_iff.2 ⟨rfl, rfl⟩⟩
  · intro u hu _
    obtain ⟨p, -, rfl⟩ := List.mem_map.1 hu
    rfl

/-- The cells of the two copies of the format word (R206). -/
abbrev isFormatCell (n r c : Nat) : Prop :=
  (c = 8 ∧ (r ≤ 5 ∨ r = 7 ∨ r = 8 ∨ (n - 7 ≤ r ∧ r < n))) ∨
    (r = 8 ∧ (c ≤ 5 ∨ c = 7 ∨ (n - 8 ≤ c ∧ c < n)))

theorem exists_mem_formatCells_iff {n r c : Nat} (hn : 17 ≤ n) :
    (∃ i, ((r, c), i) ∈ formatCells n) ↔ isFormatCell n r c := by
  simp only [formatCells, List.mem_append, List.mem_map, List.mem_range, Prod.mk.injEq]
  constructor
  · rintro ⟨_, ⟨i, hi, h, rfl⟩ | ⟨i, hi, h, rfl⟩⟩
    · unfold fa at h; split_ifs at h <;> rw [Prod.mk.injEq] at h <;> omega
    · unfold fb at h; split_ifs at h <;> rw [Prod.mk.injEq] at h <;> omega
  · rintro (⟨rfl, h | rfl | rfl | ⟨hlo, hhi⟩⟩ | ⟨rfl, h | rfl | ⟨hlo, hhi⟩⟩)
    · exact ⟨_, .inl ⟨r, by omega, if_pos h, rfl⟩⟩
    · exact ⟨_, .inl ⟨6, by omega, rfl, rfl⟩⟩
    · exact ⟨_, .inl ⟨7, by omega, rfl, rfl⟩⟩
    · refine ⟨_, .inr ⟨r + 15 - n, by omega, ?_, rfl⟩⟩
      rw [fb, if_neg (by omega), Prod.mk.injEq]
      omega
    · refine ⟨_, .inl ⟨14 - c, by omega, ?_, rfl⟩⟩
      rw [fa, if_neg (by omega), if_neg (by omega), if_neg (by omega), if_neg (by omega), Prod.mk.injEq]
      omega
    · exact ⟨_, .inl ⟨8, by omega, rfl, rfl⟩⟩
    · refine ⟨_, .inr ⟨n - 1 - c, by omega, ?_, rfl⟩⟩
      rw [fb, if_pos (by omega), Prod.mk.injEq]
      omega

/-- The cells of the two blocks of the version word (R208). -/
abbrev isVersionCell (n r c : Nat) : Prop :=
  (r < 6 ∧ n - 11 ≤ c ∧ c < n - 8) ∨ (c < 6 ∧ n - 11 ≤ r ∧ r < n - 8)

theorem exists_mem_versionCells_iff {n r c : Nat} (hn : 11 ≤ n) :
    (∃ i, ((r, c), i) ∈ versionCells n) ↔ isVersionCell n r c := by
  simp only [versionCells, List.mem_append, List.mem_map, List.mem_range, Prod.mk.injEq, vtr, vbl]
  constructor
  · rintro ⟨_, ⟨i, hi, h, rfl⟩ | ⟨i, hi, h, rfl⟩⟩ <;> omega
  · rintro (h | h)
    · exact ⟨_, .inl ⟨3 * r + (c - (n - 11)), by omega, by omega, rfl⟩⟩
    · exact ⟨_, .inr ⟨3 * c + (r - (n - 11)), by omega, by omega, rfl⟩⟩

theorem stamp_darkModule (v r c : Nat) :
    stamp (darkModule v) r c = if r = 4 * v + 9 ∧ c = 8 then some dark else none := by
  refine stamp_eq_ite ?_ ?_
  · simp only [darkModule, List.mem_singleton, exists_eq_left, SetU.covers_iff]
    omega
  · intro u hu _
    rw [List.mem_singleton.1 hu]

end Sys2Proof.Machine
end

section
/-! PROOFS. The grid of the structural phase: what its cells hold, region by region, and how many of each value there
are (43_matrix.md R201 to R212). -/

namespace Sys2Proof.Machine

/-! ### Every call draws Light or Dark -/

theorem ite_lightOrDark (P : Prop) [Decidable P] :
    isLightOrDark (if P then light else dark) ∧ isLightOrDark (if P then dark else light) := by
  split
  · exact ⟨.inl rfl, .inr rfl⟩
  · exact ⟨.inr rfl, .inl rfl⟩

theorem square_lightOrDark {f : Nat → Nat → Byte} (hf : ∀ dr dc, isLightOrDark (f dr dc)) {k : Nat} {r0 c0 : Int}
    {u : SetU} (hu : u ∈ square k r0 c0 f) : isLightOrDark u.x := by
  obtain ⟨dr, -, dc, -, rfl⟩ := mem_square_iff.1 hu
  exact hf dr dc

theorem reserve_light {cells : List ((Nat × Nat) × Nat)} {u : SetU} (hu : u ∈ reserve cells) :
    isLightOrDark u.x := by
  obtain ⟨p, -, rfl⟩ := List.mem_map.1 hu
  exact .inl rfl

theorem structuralWrites_lightOrDark {v : Nat} {u : SetU} (hu : u ∈ structuralWrites v) :
    isLightOrDark u.x := by
  simp only [structuralWrites, List.mem_append] at hu
  rcases hu with (((((hu | hu) | hu) | hu) | hu) | hu) | hu
  · obtain ⟨p, -, hu⟩ := List.mem_flatMap.1 hu
    exact square_lightOrDark (fun _ _ => (ite_lightOrDark _).1) hu
  · obtain ⟨p, -, hu⟩ := List.mem_flatMap.1 hu
    exact square_lightOrDark (fun _ _ => .inl rfl) hu
  · obtain ⟨k, -, hu⟩ := List.mem_flatMap.1 hu
    simp only [List.mem_cons, List.not_mem_nil, or_false] at hu
    rcases hu with rfl | rfl <;> exact (ite_lightOrDark _).2
  · obtain ⟨p, -, hu⟩ := List.mem_flatMap.1 hu
    exact square_lightOrDark (fun _ _ => (ite_lightOrDark _).1) hu
  · exact reserve_light hu
  · rw [List.mem_singleton.1 hu]
    exact .inr rfl
  · split at hu
    · exact reserve_light hu
    · cases hu

/-! ### The cells of each pattern -/

section
variable {v r c : Nat}

theorem at_buildGrid (hr : r < gridSide v) (hc : c < gridSide v) :
    Grid.at (buildGrid v) r c = (stamp (structuralWrites v) r c).getD undet :=
  at_foldl_setU_filled (fun _ hu => lightOrDark_ne_undet (structuralWrites_lightOrDark hu)) hr hc

theorem buildGrid_cell (hr : r < gridSide v) (hc : c < gridSide v) :
    isLightOrDark (Grid.at (buildGrid v) r c) ∨ Grid.at (buildGrid v) r c = undet := by
  rw [at_buildGrid hr hc, stamp]
  cases h : (structuralWrites v).find? fun u => u.covers r c with
  | none => exact .inr rfl
  | some u => exact .inl (structuralWrites_lightOrDark (List.mem_of_find?_eq_some h))

/-- The groups of calls in the binding order of R201, as regions of the grid: the first that holds the cell decides. -/
theorem stamp_structuralWrites (hv : 1 ≤ v) (hr : r < gridSide v) (hc : c < gridSide v) :
    stamp (structuralWrites v) r c =
      ((((((if inCorner (gridSide v) 7 r c then
          some (finderCell (cornerIndex (gridSide v) r) (cornerIndex (gridSide v) c)) else none).or
        (if inCorner (gridSide v) 8 r c then some light else none)).or
        (if r = 6 ∨ c = 6 then some (if (r + c) % 2 = 0 then dark else light) else none)).or
        (stamp (alignment v) r c)).or
        (if isFormatCell (gridSide v) r c then some light else none)).or
        (if r = 4 * v + 9 ∧ c = 8 then some dark else none)).or
        (if 7 ≤ v ∧ isVersionCell (gridSide v) r c then some light else none) := by
  have hn : 21 ≤ gridSide v := by unfold gridSide; omega
  have hversion : stamp (if 7 ≤ v then reserve (versionCells (gridSide v)) else []) r c =
      if 7 ≤ v ∧ isVersionCell (gridSide v) r c then some light else none := by
    by_cases h7 : 7 ≤ v
    · rw [if_pos h7, stamp_reserve (exists_mem_versionCells_iff (by omega))]
      simp only [h7, true_and]
    · rw [if_neg h7, if_neg fun h => h7 h.1, stamp_nil]
  simp only [structuralWrites, stamp_append, hversion, stamp_darkModule,
    stamp_reserve (exists_mem_formatCells_iff (show 17 ≤ gridSide v by omega)), stamp_timing hr hc,
    stamp_separators (show 16 ≤ gridSide v by omega) hr hc, stamp_finders (show 14 ≤ gridSide v by omega) hr hc]

theorem at_finder (hv : 1 ≤ v) (hr : r < gridSide v) (hc : c < gridSide v) (h : inCorner (gridSide v) 7 r c) :
    Grid.at (buildGrid v) r c = finderCell (cornerIndex (gridSide v) r) (cornerIndex (gridSide v) c) := by
  rw [at_buildGrid hr hc, stamp_structuralWrites hv hr hc, if_pos h]
  rfl

theorem at_separator (hv : 1 ≤ v) (hr : r < gridSide v) (hc : c < gridSide v)
    (h7 : ¬ inCorner (gridSide v) 7 r c) (h8 : inCorner (gridSide v) 8 r c) :
    Grid.at (buildGrid v) r c = light := by
  rw [at_buildGrid hr hc, stamp_structuralWrites hv hr hc, if_neg h7, if_pos h8]
  rfl

/-- Outside the corners the later groups decide. -/
theorem at_outside_corners (hv : 1 ≤ v) (hr : r < gridSide v) (hc : c < gridSide v)
    (h8 : ¬ inCorner (gridSide v) 8 r c) :
    Grid.at (buildGrid v) r c =
      (((((if r = 6 ∨ c = 6 then some (if (r + c) % 2 = 0 then dark else light) else none).or
        (stamp (alignment v) r c)).or
        (if isFormatCell (gridSide v) r c then some light else none)).or
        (if r = 4 * v + 9 ∧ c = 8 then some dark else none)).or
        (if 7 ≤ v ∧ isVersionCell (gridSide v) r c then some light else none)).getD undet := by
  have hn : 21 ≤ gridSide v := by unfold gridSide; omega
  have h7 : ¬ inCorner (gridSide v) 7 r c := by omega
  rw [at_buildGrid hr hc, stamp_structuralWrites hv hr hc, if_neg h7, if_neg h8]
  rfl

theorem at_timing (hv : 1 ≤ v) (hr : r < gridSide v) (hc : c < gridSide v)
    (h8 : ¬ inCorner (gridSide v) 8 r c) (h6 : r = 6 ∨ c = 6) :
    Grid.at (buildGrid v) r c = if (r + c) % 2 = 0 then dark else light := by
  rw [at_outside_corners hv hr hc h8, if_pos h6]
  rfl

/-- A reserved cell and the dark module lie outside the corners, the timing lines and the alignment patterns. -/
theorem at_outside_patterns (hv : 1 ≤ v) (hr : r < gridSide v) (hc : c < gridSide v)
    (h8 : ¬ inCorner (gridSide v) 8 r c) (h6 : ¬ (r = 6 ∨ c = 6)) (halign : stamp (alignment v) r c = none) :
    Grid.at (buildGrid v) r c =
      (((if isFormatCell (gridSide v) r c then some light else none).or
        (if r = 4 * v + 9 ∧ c = 8 then some dark else none)).or
        (if 7 ≤ v ∧ isVersionCell (gridSide v) r c then some light else none)).getD undet := by
  rw [at_outside_corners hv hr hc h8, if_neg h6, halign]
  rfl

/-- No cell of column 6 is left UNDET: the timing line passes through it. -/
theorem column_six_determined (hv : 1 ≤ v) (hr : r < gridSide v) : Grid.at (buildGrid v) r 6 ≠ undet := by
  have hc : 6 < gridSide v := by unfold gridSide; omega
  apply lightOrDark_ne_undet
  by_cases h7 : inCorner (gridSide v) 7 r 6
  · rw [at_finder hv hr hc h7]
    exact (ite_lightOrDark _).1
  · by_cases h8 : inCorner (gridSide v) 8 r 6
    · rw [at_separator hv hr hc h7 h8]
      exact .inl rfl
    · rw [at_timing hv hr hc h8 (.inr rfl)]
      exact (ite_lightOrDark _).2

/-- Where a timing line crosses an alignment pattern both draw the same value: the centres are even. -/
theorem alignCell_middle : ∀ d < 5, alignCell 2 d = (if d % 2 = 0 then dark else light) ∧
    alignCell d 2 = (if d % 2 = 0 then dark else light) := by decide

theorem at_alignment (hv : 1 ≤ v) (hv' : v ≤ 10) (hp : (r, c) ∈ alignCentres v) {dr dc : Nat} (hdr : dr < 5)
    (hdc : dc < 5) : Grid.at (buildGrid v) (r - 2 + dr) (c - 2 + dc) = alignCell dr dc := by
  obtain ⟨hrow, hcol, hskip⟩ := alignCentres_bounds v (by omega) _ hp
  have hn : 21 ≤ gridSide v := by unfold gridSide; omega
  rw [at_outside_corners hv (by omega) (by omega) (by omega), stamp_alignment_some (by omega) hp hdr hdc]
  by_cases h6 : r - 2 + dr = 6 ∨ c - 2 + dc = 6
  · rw [if_pos h6]
    rcases h6 with h6 | h6
    · obtain rfl : dr = 2 := by omega
      rw [(alignCell_middle dc hdc).1]
      exact if_congr (by omega) rfl rfl
    · obtain rfl : dc = 2 := by omega
      rw [(alignCell_middle dr hdr).2]
      exact if_congr (by omega) rfl rfl
  · rw [if_neg h6]
    rfl

/-- No alignment pattern reaches the reserved cells of the format word, nor the dark module. -/
theorem alignment_misses_line_eight (hv : 1 ≤ v) (hv' : v ≤ 10) (hr : r < gridSide v) (hc : c < gridSide v)
    (h : r = 8 ∧ (c ≤ 8 ∨ gridSide v - 8 ≤ c) ∨ c = 8 ∧ (r ≤ 8 ∨ gridSide v - 8 ≤ r)) :
    stamp (alignment v) r c = none := by
  refine stamp_alignment_none fun p hp => ?_
  have hp := alignCentres_bounds v (by omega) p hp
  omega

theorem at_formatCell (hv : 1 ≤ v) (hv' : v ≤ 10) (h : isFormatCell (gridSide v) r c) :
    Grid.at (buildGrid v) r c = light := by
  have hn : 21 ≤ gridSide v := by unfold gridSide; omega
  have hr : r < gridSide v := by omega
  have hc : c < gridSide v := by omega
  rw [at_outside_patterns hv hr hc (by omega) (by omega)
    (alignment_misses_line_eight hv hv' hr hc (by omega)), if_pos h]
  rfl

theorem at_darkModule (hv : 1 ≤ v) (hv' : v ≤ 10) : Grid.at (buildGrid v) (4 * v + 9) 8 = dark := by
  have hn : gridSide v = 4 * v + 17 := by unfold gridSide; omega
  rw [at_outside_patterns hv (by omega) (by omega) (by omega) (by omega)
    (alignment_misses_line_eight hv hv' (by omega) (by omega) (by omega)), if_neg (by omega),
    if_pos ⟨rfl, rfl⟩]
  rfl

theorem at_versionCell (hv : 7 ≤ v) (hv' : v ≤ 10) (h : isVersionCell (gridSide v) r c) :
    Grid.at (buildGrid v) r c = light := by
  have hn : gridSide v = 4 * v + 17 := by unfold gridSide; omega
  have hr : r < gridSide v := by omega
  have hc : c < gridSide v := by omega
  have halign : stamp (alignment v) r c = none := by
    refine stamp_alignment_none fun p hp => ?_
    have hp := alignCentres_bounds v (by omega) p hp
    omega
  rw [at_outside_patterns (by omega) hr hc (by omega) (by omega) halign, if_neg (by omega), if_neg (by omega),
    if_pos ⟨hv, h⟩]
  rfl

end

end Sys2Proof.Machine
end

namespace Sys2Proof.Proofs

open Sys2Proof.Machine

/-- Settles O44, region by region. -/
theorem structureShowsItsPatterns : Obligations.StructureShowsItsPatterns := by
  intro v hv hv'
  have hn : gridSide v = 4 * v + 17 := by unfold gridSide; omega
  have hformat : ∀ {r c}, isFormatCell (gridSide v) r c → Grid.at (buildGrid v) r c = 0 := at_formatCell hv hv'
  refine ⟨fun dr dc hdr hdc => ?_, fun k hk => ?_, fun k hlo hhi => ⟨?_, ?_⟩,
    fun r c hp dr dc hdr hdc => at_alignment hv hv' (mem_alignCentres_of_drawn (by omega) hp) hdr hdc,
    fun k hk => ⟨hformat (by omega), hformat (by omega)⟩, hformat (by omega), hformat (by omega),
    hformat (by omega), fun k hk => hformat (by omega), fun k hk => hformat (by omega), at_darkModule hv hv',
    fun h7 a b ha hb => ⟨at_versionCell h7 hv' (by omega), at_versionCell h7 hv' (by omega)⟩⟩
  · have hlow : ∀ x < 7, cornerIndex (gridSide v) x = x := fun x hx => if_pos hx
    have hhigh : ∀ x < 7, cornerIndex (gridSide v) (gridSide v - 7 + x) = x := fun x hx => by
      rw [cornerIndex, if_neg (by omega), Nat.add_sub_cancel_left]
    refine ⟨?_, ?_, ?_⟩
    · refine (at_finder hv (by omega) (by omega) (by omega)).trans ?_
      rw [hlow dr hdr, hlow dc hdc]
      rfl
    · refine (at_finder hv (by omega) (by omega) (by omega)).trans ?_
      rw [hlow dr hdr, hhigh dc hdc]
      rfl
    · refine (at_finder hv (by omega) (by omega) (by omega)).trans ?_
      rw [hhigh dr hdr, hlow dc hdc]
      rfl
  · refine ⟨?_, ?_, ?_, ?_, ?_, ?_⟩ <;> exact at_separator hv (by omega) (by omega) (by omega) (by omega)
  · exact (at_timing hv (by omega) (by omega) (by omega) (.inl rfl)).trans (if_congr (by omega) rfl rfl)
  · exact (at_timing hv (by omega) (by omega) (by omega) (.inr rfl)).trans (if_congr (by omega) rfl rfl)

end Sys2Proof.Proofs

section
/-! PROOFS. How many cells of each value the structural phase leaves (43_matrix.md R212), and that its grid always
passes the checks of PLACEDATA (R214). -/

namespace Sys2Proof.Machine

/-- A row of Light, Dark and UNDET cells is made up of the three counts. -/
theorem count_three {row : List Byte} (h : ∀ x ∈ row, isLightOrDark x ∨ x = undet) :
    row.count undet + row.count light + row.count dark = row.length := by
  induction row with
  | nil => rfl
  | cons x row ih =>
    rw [List.forall_mem_cons] at h
    have ih := ih h.2
    rcases h.1 with (rfl | rfl) | rfl <;> simp [light, dark, undet] at ih ⊢ <;> omega

theorem countCells_three {g : Grid} {n : Nat} (hrows : ∀ row ∈ g, row.length = n)
    (h : ∀ row ∈ g, ∀ x ∈ row, isLightOrDark x ∨ x = undet) :
    g.countCells undet + g.countCells light + g.countCells dark = g.length * n := by
  induction g with
  | nil => simp [Grid.countCells]
  | cons row g ih =>
    rw [List.forall_mem_cons] at hrows h
    have ih := ih hrows.2 h.2
    have hrow := count_three h.1
    rw [hrows.1] at hrow
    simp only [Grid.countCells, List.map_cons, List.sum_cons, List.length_cons, Nat.succ_mul] at ih ⊢
    omega

/-- The table of R212: the cells that BUILDSTRUCT leaves UNDET, by version. -/
def undetRow : List Nat := [0, 208, 359, 567, 807, 1079, 1383, 1568, 1936, 2336, 2768]

/-- The table of R212: the structural cells, by version. -/
def structuralRow : List Nat := [0, 233, 266, 274, 282, 290, 298, 457, 465, 473, 481]

/-- The cells left UNDET are as many as the table of R212 says: the ten grids, counted. -/
theorem countCells_undet_buildGrid : ∀ v < 11, 1 ≤ v → (buildGrid v).countCells undet = undetRow.getD v 0 := by
  decide +kernel

/-- That number is U(v) = 8·NTOTAL(v) + REM(v), at every level. -/
theorem capacity_of_table : ∀ v < 11, 1 ≤ v → ∀ l : BitVec 2, 8 * ntotal v l + remCells v = undetRow.getD v 0 := by
  decide +kernel

/-- The table's two columns make up the whole grid. -/
theorem structural_of_table : ∀ v < 11, 1 ≤ v →
    undetRow.getD v 0 + structuralRow.getD v 0 = gridSide v * gridSide v := by
  decide

theorem placeable_buildGrid {v : Nat} (hv : 1 ≤ v) (hv' : v ≤ 10) (l : BitVec 2) :
    placeable (buildGrid v) v l = true := by
  refine (placeable_iff (buildGrid_square v) l).2 ⟨fun r c hr hc => ?_, fun r hr => column_six_determined hv hr, ?_⟩
  · rcases buildGrid_cell hr hc with (h | h) | h <;> rw [h] <;> decide
  · rw [countCells_undet_buildGrid v (by omega) hv, capacity_of_table v (by omega) hv]

end Sys2Proof.Machine
end

namespace Sys2Proof.Proofs

open Sys2Proof.Machine

/-- Settles O45: the UNDET cells are counted, and every other cell is Light or Dark. -/
theorem structureLeavesTheCapacityUndetermined : Obligations.StructureLeavesTheCapacityUndetermined := by
  intro v l hv hv'
  have hundet := countCells_undet_buildGrid v (by omega) hv
  have hcap := capacity_of_table v (by omega) hv l
  have htable := structural_of_table v (by omega) hv
  obtain ⟨hlen, hrows⟩ := buildGrid_square v
  have hsum := countCells_three hrows
    ((Grid.forall_mem_iff (buildGrid_square v) _).2 fun _ _ => buildGrid_cell)
  rw [hlen] at hsum
  have hdrawn : (buildGrid v).countCells light + (buildGrid v).countCells dark = structuralRow.getD v 0 := by
    omega
  exact ⟨hundet.trans hcap.symm, hundet, hdrawn, hsum⟩

/-- Settles O49: GRID holds the structural grid, which passes the checks, and MASKMAP lies outside GRID. -/
theorem placementFollowsStructure : Obligations.PlacementFollowsStructure := by
  intro s v hat
  obtain ⟨hver, hv, hv'⟩ := id hat
  obtain ⟨t, hbuild, -, honly, hcells, -⟩ := (buildstructWritesTheStructure s).2 v hat
  have hat' : t.atVersion v := by rw [honly]; exact hat
  have hgrid : t.readGrid .grid (gridSide v) = buildGrid v := by
    refine Grid.square_ext (t.readGrid_square .grid _) (buildGrid_square v) fun r c hr hc => ?_
    rw [← t.gridCell_eq hr hc, (hcells r c hr hc).1]
  have hok : placeable (t.readGrid .grid (gridSide v)) v t.config.ecl = true := by
    rw [hgrid]; exact placeable_buildGrid hv hv' _
  obtain ⟨hle, h6, -⟩ := (placeable_iff (t.readGrid_square .grid _) _).1 hok
  obtain ⟨u, hplace, hdone, -, -, hplaced⟩ := complete_writeGrids t hv'
    (placeGrid_square (t.readGrid_square .grid _) (t.readBytes 0x1600 (ntotal v t.config.ecl))
      (ntotal v t.config.ecl)) (placeMap_square (t.readGrid .grid (gridSide v)) (gridSide v))
  refine ⟨t, u, hbuild, (execPlacedata_places hat' hok).trans hplace, hdone, fun r c hr hc => ?_⟩
  rw [(hplaced r c hr hc).1]
  exact placeGrid_lightOrDark (t.readGrid_square .grid _) hv hv' hle h6 _ _ hr hc

end Sys2Proof.Proofs

section
/-! PROOFS. WRITEFMT and WRITEVER (45_bch.md R264 to R266): the words are those of the spec's tables, the cells those
of R206 and R208, and storing single cells changes memory alone. -/

namespace Sys2Proof.Machine

/-! ### Storing a word's bits -/

theorem State.writeCells_eq (s : State) (cells : List (Nat × Byte)) :
    s.writeCells cells = { s with mem := (s.writeCells cells).mem } := by
  induction cells generalizing s with
  | nil => rfl
  | cons c cs ih => exact ih (s.writeBytes c.1 [c.2])

theorem bitCell_eq (w i : Nat) : bitCell w i = if w.testBit i then 1 else 0 := rfl

/-- A cell that receives bit i holds it, when the cells are distinct (R264). -/
theorem State.gridCell_bitWrites (s : State) {n : Nat} {cells : List ((Nat × Nat) × Nat)}
    (hd : (cells.map fun p => gridOffset n p.1.1 p.1.2).Nodup) (w : Nat) {p : Nat × Nat} {i : Nat}
    (hp : (p, i) ∈ cells) :
    (s.writeCells (bitWrites n cells w)).gridCell n p.1 p.2 = if w.testBit i then 1 else 0 :=
  s.readByte_writeCells_inside (cells := bitWrites n cells w) (by rw [bitWrites, List.map_map]; exact hd)
    (List.mem_map.2 ⟨(p, i), hp, rfl⟩)

/-- A byte that is none of the cells stays. -/
theorem State.readByte_bitWrites_outside (s : State) {n : Nat} {cells : List ((Nat × Nat) × Nat)} (w : Nat) {a : Nat}
    (h : ∀ p ∈ cells, gridOffset n p.1.1 p.1.2 ≠ a) :
    (s.writeCells (bitWrites n cells w)).readByte a = s.readByte a := by
  refine s.readByte_writeCells_outside fun c hc => ?_
  obtain ⟨p, hp, rfl⟩ := List.mem_map.1 hc
  exact h p hp

theorem gridCell_of_sameBytes {s t : State} (h : sameBytes s t) (n r c : Nat) :
    t.gridCell n r c = s.gridCell n r c := h _

/-- Completing with single cells and FORMAT stored (R302). -/
theorem complete_writeCells_setFormat (s : State) (cells : List (Nat × Byte)) (f : BitVec 15) :
    ∃ t, complete ((s.writeCells cells).setFormat f) = .next t ∧ s.completedTo t ∧
      t = { s with mem := t.mem, format := t.format, status := t.status, phase := t.phase } ∧ t.format = f ∧
      sameBytes (s.writeCells cells) t := by
  rw [s.writeCells_eq]
  exact ⟨_, complete_eq _, ⟨rfl, rfl⟩, rfl, rfl, fun _ => rfl⟩

/-- Completing with single cells and VERWORD stored (R302). -/
theorem complete_writeCells_setVerWord (s : State) (cells : List (Nat × Byte)) (w : BitVec 18) :
    ∃ t, complete ((s.writeCells cells).setVerWord w) = .next t ∧ s.completedTo t ∧
      t = { s with mem := t.mem, verWord := t.verWord, status := t.status, phase := t.phase } ∧ t.verWord = w ∧
      sameBytes (s.writeCells cells) t := by
  rw [s.writeCells_eq]
  exact ⟨_, complete_eq _, ⟨rfl, rfl⟩, rfl, rfl, fun _ => rfl⟩

/-! ### The format word (R206, R261) -/

theorem formatWord_eq : ∀ (l : BitVec 2) (m : BitVec 3), formatWord l m = formatEntry l m := by decide

theorem formatEntry_lt : ∀ (l : BitVec 2) (m : BitVec 3), formatEntry l m < 2 ^ 15 := by decide

theorem fa_eq_faCell : ∀ i < 15, fa i = faCell i := by decide

theorem fb_eq_fbCell {n : Nat} (hn : 15 ≤ n) : ∀ i < 15, fb n i = fbCell n i := by
  intro i hi
  interval_cases i <;> simp [fb, fbCell] <;> omega

/-- A cell with a bit number is FA[i] or FB[i]. -/
theorem mem_formatCells_iff {n : Nat} (hn : 15 ≤ n) {p : (Nat × Nat) × Nat} :
    p ∈ formatCells n ↔ ∃ i < 15, p = (faCell i, i) ∨ p = (fbCell n i, i) := by
  simp only [formatCells, List.mem_append, List.mem_map, List.mem_range]
  constructor
  · rintro (⟨i, hi, rfl⟩ | ⟨i, hi, rfl⟩)
    · exact ⟨i, hi, .inl (by rw [fa_eq_faCell i hi])⟩
    · exact ⟨i, hi, .inr (by rw [fb_eq_fbCell hn i hi])⟩
  · rintro ⟨i, hi, rfl | rfl⟩
    · exact .inl ⟨i, hi, by rw [fa_eq_faCell i hi]⟩
    · exact .inr ⟨i, hi, by rw [fb_eq_fbCell hn i hi]⟩

theorem formatCells_distinct : ∀ v < 11, 1 ≤ v →
    ((formatCells (gridSide v)).map fun p => gridOffset (gridSide v) p.1.1 p.1.2).Nodup := by decide +kernel

/-! ### The version word (R208, R263) -/

theorem versionRegWord_eq : ∀ v < 11, versionRegWord v = versionEntry v := by decide

theorem versionEntry_lt : ∀ v < 11, versionEntry v < 2 ^ 18 := by decide

theorem mem_versionCells_iff {n : Nat} {p : (Nat × Nat) × Nat} :
    p ∈ versionCells n ↔ ∃ i < 18, p = (versionCellRight n i, i) ∨ p = (versionCellLeft n i, i) := by
  simp only [versionCells, List.mem_append, List.mem_map, List.mem_range, vtr, vbl, versionCellRight,
    versionCellLeft, ← exists_or, eq_comm (b := p), ← and_or_left]

theorem versionCells_distinct : ∀ v < 11, 7 ≤ v →
    ((versionCells (gridSide v)).map fun p => gridOffset (gridSide v) p.1.1 p.1.2).Nodup := by decide +kernel

theorem versionCellsOf_low {v : Nat} (h : v ≤ 6) : versionCellsOf v = [] := if_neg (by omega)

theorem versionCellsOf_high {v : Nat} (h : 7 ≤ v) : versionCellsOf v = versionCells (gridSide v) := if_pos h

end Sys2Proof.Machine
end

namespace Sys2Proof.Proofs

open Sys2Proof.Machine

/-- Settles O55: the command stores the word's bits in the 30 distinct cells of R206. -/
theorem writefmtWritesBothCopies : Obligations.WritefmtWritesBothCopies := by
  refine fun s => ⟨fun h => withVersion_none h _, fun v hat => ?_⟩
  obtain ⟨-, hv, hv'⟩ := id hat
  have hn : 15 ≤ gridSide v := by unfold gridSide; omega
  have hd := formatCells_distinct v (by omega) hv
  have hexec : exec .writefmt s = complete ((s.writeCells (bitWrites (gridSide v) (formatCells (gridSide v))
      (formatEntry s.config.ecl s.resolved.mask))).setFormat
        (BitVec.ofNat 15 (formatEntry s.config.ecl s.resolved.mask))) := by
    rw [← formatWord_eq]
    exact withVersion_some hat _
  obtain ⟨t, ht, hdone, honly, hformat, hbytes⟩ := complete_writeCells_setFormat s
    (bitWrites (gridSide v) (formatCells (gridSide v)) (formatEntry s.config.ecl s.resolved.mask))
    (BitVec.ofNat 15 (formatEntry s.config.ecl s.resolved.mask))
  refine ⟨t, hexec.trans ht, hdone, honly, by rw [hformat, toNat_ofNat_of_lt (formatEntry_lt _ _)],
    fun i hi => ⟨?_, ?_⟩, fun a ha => ?_⟩
  · rw [gridCell_of_sameBytes hbytes]
    exact s.gridCell_bitWrites hd _ ((mem_formatCells_iff hn).2 ⟨i, hi, .inl rfl⟩)
  · rw [gridCell_of_sameBytes hbytes]
    exact s.gridCell_bitWrites hd _ ((mem_formatCells_iff hn).2 ⟨i, hi, .inr rfl⟩)
  · refine (hbytes a).trans (s.readByte_bitWrites_outside _ fun p hp => ?_)
    obtain ⟨i, hi, rfl | rfl⟩ := (mem_formatCells_iff hn).1 hp
    · exact (ha i hi).1.symm
    · exact (ha i hi).2.symm

/-- Settles O56: the command stores the word's bits in the 36 distinct cells of R208 from version 7 on, and in none
below. -/
theorem writeverWritesBothBlocks : Obligations.WriteverWritesBothBlocks := by
  refine fun s => ⟨fun h => withVersion_none h _, fun v hat => ?_⟩
  obtain ⟨-, hv, hv'⟩ := id hat
  have hword := versionRegWord_eq v (by omega)
  have hexec : exec .writever s = complete ((s.writeCells (bitWrites (gridSide v) (versionCellsOf v)
      (versionEntry v))).setVerWord (BitVec.ofNat 18 (versionEntry v))) := by
    rw [← hword]
    exact withVersion_some hat _
  obtain ⟨t, ht, hdone, honly, hverWord, hbytes⟩ := complete_writeCells_setVerWord s
    (bitWrites (gridSide v) (versionCellsOf v) (versionEntry v)) (BitVec.ofNat 18 (versionEntry v))
  refine ⟨t, hexec.trans ht, hdone, honly, fun hlow => ⟨?_, ?_⟩, fun hhigh => ?_⟩
  · have hzero : versionEntry v = 0 := hword.symm.trans (if_neg (by omega))
    rw [hverWord, hzero, BitVec.ofNat_eq_ofNat]
  · rw [versionCellsOf_low hlow] at hbytes
    exact hbytes
  · have hd := versionCells_distinct v (by omega) hhigh
    rw [versionCellsOf_high hhigh] at hbytes
    refine ⟨by rw [hverWord, toNat_ofNat_of_lt (versionEntry_lt v (by omega))], fun i hi => ⟨?_, ?_⟩,
      fun a ha => ?_⟩
    · rw [gridCell_of_sameBytes hbytes]
      exact s.gridCell_bitWrites (p := versionCellRight _ i) hd _ (mem_versionCells_iff.2 ⟨i, hi, .inl rfl⟩)
    · rw [gridCell_of_sameBytes hbytes]
      exact s.gridCell_bitWrites (p := versionCellLeft _ i) hd _ (mem_versionCells_iff.2 ⟨i, hi, .inr rfl⟩)
    · refine (hbytes a).trans (s.readByte_bitWrites_outside _ fun p hp => ?_)
      obtain ⟨i, hi, rfl | rfl⟩ := mem_versionCells_iff.1 hp
      · exact (ha i hi).1.symm
      · exact (ha i hi).2.symm

end Sys2Proof.Proofs

section
/-! PROOFS. Sums over 0 … n − 1 as Safety.lean writes them, and the grid of a function: GRID and MASKMAP as read are
such grids (10_state.md R46, R47), so that a claim about their lists becomes one about their cells. -/

namespace Sys2Proof.Machine

/-! ### Sums -/

theorem sumUpTo_eq_sum (n : Nat) (f : Nat → Nat) : sumUpTo n f = ∑ i ∈ Finset.range n, f i := rfl

theorem sumUpTo_congr {n : Nat} {f f' : Nat → Nat} (h : ∀ i < n, f i = f' i) : sumUpTo n f = sumUpTo n f' :=
  Finset.sum_congr rfl fun i hi => h i (Finset.mem_range.1 hi)

theorem sumUpTo_le {n b : Nat} {f : Nat → Nat} (h : ∀ i < n, f i ≤ b) : sumUpTo n f ≤ n * b := by
  simpa [sumUpTo_eq_sum] using Finset.sum_le_card_nsmul (Finset.range n) f b
    fun i hi => h i (Finset.mem_range.1 hi)

theorem sumLines_le {n b : Nat} {cost : (Nat → Byte) → Nat} (h : ∀ line, cost line ≤ b)
    (cell : Nat → Nat → Byte) : sumLines n cell cost ≤ n * b + n * b :=
  Nat.add_le_add (sumUpTo_le fun _ _ => h _) (sumUpTo_le fun _ _ => h _)

theorem count_map_range (n : Nat) (f : Nat → Byte) (x : Byte) :
    ((List.range n).map f).count x = sumUpTo n fun i => if f i = x then 1 else 0 := by
  induction n with
  | zero => rfl
  | succ n ih =>
    rw [List.range_succ, List.map_append, List.count_append, ih, sumUpTo_eq_sum, sumUpTo_eq_sum,
      Finset.sum_range_succ]
    by_cases hx : f n = x <;> simp [hx]

/-- A line is a list when its cells are the entries. -/
theorem map_range_eq_iff {n : Nat} {f : Nat → Byte} {l : List Byte} (hl : l.length = n) :
    (List.range n).map f = l ↔ ∀ j, j < n → f j = l.getD j 0 := by
  constructor
  · rintro rfl j hj
    simp [hj]
  · intro h
    refine List.ext_getElem (by simp [hl]) fun j hj hj' => ?_
    simpa [hj'] using h j (by omega)

theorem zipIdx_map_range {α β : Type} (n : Nat) (f : Nat → α) (h : α × Nat → β) :
    ((List.range n).map f).zipIdx.map h = (List.range n).map fun i => h (f i, i) :=
  List.ext_getElem (by simp) fun i _ _ => by simp

/-! ### The grid of a function -/

/-- The n×n grid whose cell (r, c) is `cell r c`. -/
def Grid.ofCells (n : Nat) (cell : Nat → Nat → Byte) : Grid :=
  (List.range n).map fun r => (List.range n).map (cell r)

section
variable {n : Nat} (cell : Nat → Nat → Byte)

theorem Grid.ofCells_square : (Grid.ofCells n cell).square n := by simp [Grid.ofCells, Grid.square]

theorem Grid.at_ofCells {r c : Nat} (hr : r < n) (hc : c < n) : (Grid.ofCells n cell).at r c = cell r c := by
  simp [Grid.ofCells, Grid.at_eq, hr, hc]

theorem Grid.allCells_ofCells (p : Byte → Bool) :
    (Grid.ofCells n cell).allCells p = true ↔ ∀ r c, r < n → c < n → p (cell r c) = true := by
  simp only [Grid.allCells, Grid.ofCells, List.all_eq_true, List.forall_mem_map, List.mem_range]
  exact ⟨fun h r c hr hc => h r hr c hc, fun h r hr c hc => h r c hr hc⟩

theorem Grid.countCells_ofCells (x : Byte) : (Grid.ofCells n cell).countCells x =
    sumUpTo n fun r => sumUpTo n fun c => if cell r c = x then 1 else 0 := by
  simp only [Grid.countCells, Grid.ofCells, List.map_map, Function.comp_def, count_map_range]
  rfl

/-- The column of a grid is the line of its cells. -/
theorem columns_ofCells : columns (Grid.ofCells n cell) n = Grid.ofCells n fun c r => cell r c := by
  refine List.map_congr_left fun c hc => ?_
  rw [Grid.ofCells, List.map_map]
  refine List.map_congr_left fun r _ => ?_
  simp [List.mem_range.1 hc]

/-- A sum over the rows and columns of the grid is the sum over its lines. -/
theorem sum_gridLines_ofCells (f : List Byte → Nat) : ((gridLines (Grid.ofCells n cell) n).map f).sum =
    sumLines n cell fun line => f ((List.range n).map line) := by
  rw [gridLines, columns_ofCells, List.map_append, List.sum_append]
  simp only [Grid.ofCells, List.map_map]
  rfl

end

theorem State.readGrid_grid_eq (s : State) (n : Nat) : s.readGrid .grid n = Grid.ofCells n (s.gridCell n) := by
  simp only [State.readGrid, State.readBytes, Grid.ofCells, Nat.add_assoc]
  rfl

theorem State.readGrid_maskMap_eq (s : State) (n : Nat) : s.readGrid .maskMap n = Grid.ofCells n (s.mapCell n) := by
  simp only [State.readGrid, State.readBytes, Grid.ofCells, Nat.add_assoc]
  rfl

end Sys2Proof.Machine
end

section
/-! PROOFS. The penalties of 44_mask.md R232 to R236: what the model counts along the lists of a grid is what
Safety.lean counts over its cells, and none of it overflows a register. -/

namespace Sys2Proof.Machine

/-! ### Runs (R232) -/

/-- What the maximal runs from cell i on cost; there is at most one. -/
def runCostAt (n : Nat) (line : Nat → Byte) (i : Nat) : Nat :=
  sumUpTo (n + 1) fun k => if 5 ≤ k ∧ maximalRun n line i k then 3 + (k - 5) else 0

section
variable {n : Nat} {line : Nat → Byte} {i k : Nat}

theorem maximalRun_le {k' : Nat} (h : maximalRun n line i k) (h' : maximalRun n line i k') : k' ≤ k := by
  obtain ⟨-, -, -, hend⟩ := h
  obtain ⟨hle', heq', -, -⟩ := h'
  by_contra hlt
  rcases hend with hend | hend
  · omega
  · exact hend (heq' k (by omega))

theorem maximalRun_unique {k' : Nat} (h : maximalRun n line i k) (h' : maximalRun n line i k') : k' = k :=
  Nat.le_antisymm (maximalRun_le h h') (maximalRun_le h' h)

theorem runCostAt_of_maximalRun (h : maximalRun n line i k) : runCostAt n line i = runCost k := by
  have hk : k ∈ Finset.range (n + 1) := Finset.mem_range.2 (by have := h.1; omega)
  rw [runCostAt, sumUpTo_eq_sum, Finset.sum_eq_single_of_mem k hk fun k' _ hne =>
    if_neg fun hrun => hne (maximalRun_unique h hrun.2)]
  exact if_congr (and_iff_left h) rfl rfl

/-- A run goes on at cell i, so none starts there. -/
theorem runCostAt_of_continued (hi : 0 < i) (h : line (i - 1) = line i) : runCostAt n line i = 0 := by
  rw [runCostAt, sumUpTo_eq_sum]
  refine Finset.sum_eq_zero fun k _ => if_neg fun ⟨_, _, _, hstart, _⟩ => ?_
  rcases hstart with rfl | hne
  · omega
  · exact hne h

/-- Of the cells of one maximal run only the first bears a cost. -/
theorem sum_runCostAt_run (hk : 0 < k) (h : maximalRun n line i k) :
    ∑ j ∈ Finset.Ico i (i + k), runCostAt n line j = runCost k := by
  rw [Finset.sum_eq_single_of_mem i (by simp [hk]) fun j hj hne => ?_]
  · exact runCostAt_of_maximalRun h
  · obtain ⟨hlo, hhi⟩ := Finset.mem_Ico.1 hj
    obtain ⟨-, heq, -, -⟩ := h
    have hprev := heq (j - 1 - i) (by omega)
    have hthis := heq (j - i) (by omega)
    rw [show i + (j - 1 - i) = j - 1 by omega] at hprev
    rw [show i + (j - i) = j by omega] at hthis
    exact runCostAt_of_continued (by omega) (hprev.trans hthis.symm)

/-- The scan of a line that has seen k cells of a run from cell i on, with d cells to come. The next cell either
lengthens the run or ends it and starts another. -/
theorem sum_runsFrom (d : Nat) (hk : 0 < k) (hstart : i = 0 ∨ line (i - 1) ≠ line i)
    (heq : ∀ j < k, line (i + j) = line i) (hn : i + k + d = n) :
    ((runsFrom (line i) k ((List.range' (i + k) d).map line)).map runCost).sum =
      ∑ j ∈ Finset.Ico i n, runCostAt n line j := by
  induction d generalizing i k with
  | zero =>
    subst hn
    exact (sum_runCostAt_run hk ⟨le_rfl, heq, hstart, .inl rfl⟩).symm
  | succ d ih =>
    rw [List.range'_succ, List.map_cons, runsFrom]
    by_cases hy : line (i + k) = line i
    · rw [if_pos hy]
      refine ih (k := k + 1) (by omega) hstart (fun j hj => ?_) (by omega)
      rcases Nat.lt_succ_iff_lt_or_eq.1 hj with hlt | rfl
      · exact heq j hlt
      · exact hy
    · have hprev : line (i + k - 1) = line i := by
        rw [Nat.add_sub_assoc hk]
        exact heq (k - 1) (by omega)
      have hrest := ih (i := i + k) (k := 1) (by omega) (.inr (by rw [hprev]; exact Ne.symm hy))
        (by simp) (by omega)
      rw [if_neg hy, List.map_cons, List.sum_cons, hrest,
        ← sum_runCostAt_run (n := n) hk ⟨by omega, heq, hstart, .inr hy⟩]
      exact Finset.sum_Ico_consecutive _ (by omega) (by omega)

end

/-- The scan of a whole line counts each maximal run where it starts. -/
theorem sum_runs (n : Nat) (line : Nat → Byte) :
    ((runs ((List.range n).map line)).map runCost).sum = sumUpTo n (runCostAt n line) := by
  cases n with
  | zero => rfl
  | succ d =>
    rw [List.range_eq_range', List.range'_succ, sumUpTo_eq_sum, Finset.range_eq_Ico]
    exact sum_runsFrom (i := 0) (k := 1) d (by omega) (.inl rfl) (by simp) (by omega)

/-- The scan of a line costs two less than the line's length at most. -/
theorem sum_runsFrom_le (x : Byte) (k : Nat) (ys : List Byte) :
    ((runsFrom x k ys).map runCost).sum ≤ k + ys.length - 2 := by
  have hcost (k : Nat) : runCost k ≤ k - 2 := by unfold runCost; split <;> omega
  induction ys generalizing x k with
  | nil => simpa [runsFrom] using hcost k
  | cons y ys ih =>
    rw [runsFrom, List.length_cons]
    split
    · exact (ih x (k + 1)).trans (by omega)
    · rw [List.map_cons, List.sum_cons]
      have := hcost k
      have := ih y 1
      omega

theorem sum_runs_le (line : List Byte) : ((runs line).map runCost).sum ≤ line.length - 2 := by
  cases line with
  | nil => simp [runs]
  | cons x xs => exact (sum_runsFrom_le x 1 xs).trans (by simp; omega)

/-! ### Windows (R234) -/

/-- The 11 cells from s on are the pattern exactly when the window shows it. -/
theorem window_eq_iff_shows {n s : Nat} (hs : s < n - 10) (line : Nat → Byte) {pattern : List Byte}
    (hl : pattern.length = 11) :
    (((List.range n).map line).drop s).take 11 = pattern ↔ shows line s pattern := by
  have hwindow : (((List.range n).map line).drop s).take 11 = (List.range 11).map fun j => line (s + j) :=
    List.ext_getElem (by simp; omega) fun j _ _ => by simp
  rw [hwindow, map_range_eq_iff hl]

theorem windowCost_eq (n : Nat) (line : Nat → Byte) : windowCost n ((List.range n).map line) =
    sumUpTo (n - 10) fun s => if shows line s patternA ∨ shows line s patternB then 40 else 0 :=
  sumUpTo_congr fun _ hs =>
    if_congr (or_congr (window_eq_iff_shows hs line rfl) (window_eq_iff_shows hs line rfl)) rfl rfl

/-! ### The components (R232 to R236) -/

section
variable (n : Nat) (cell : Nat → Nat → Byte)

theorem penaltyRuns_ofCells : penaltyRuns (Grid.ofCells n cell) n = runSpec n cell := by
  rw [penaltyRuns, sum_gridLines_ofCells cell fun line => ((runs line).map runCost).sum]
  simp only [sum_runs]
  rfl

theorem penaltyBlocks_ofCells : penaltyBlocks (Grid.ofCells n cell) n = blockSpec n cell := by
  refine sumUpTo_congr fun r hr => sumUpTo_congr fun c hc => ?_
  simp [blockEqual, Grid.at_ofCells, and_assoc, show r < n by omega, show r + 1 < n by omega,
    show c < n by omega, show c + 1 < n by omega]

theorem penaltyFinder_ofCells : penaltyFinder (Grid.ofCells n cell) n = windowSpec n cell := by
  rw [penaltyFinder, sum_gridLines_ofCells cell (windowCost n)]
  simp only [windowCost_eq]
  rfl

theorem penaltyBalance_ofCells : penaltyBalance (Grid.ofCells n cell) n = balanceSpec n cell := by
  have habs (a b : Nat) : ((a : Int) - (b : Int)).natAbs = (a - b) + (b - a) := by omega
  rw [penaltyBalance, habs, Grid.countCells_ofCells]
  rfl

theorem penalty_ofCells : penalty (Grid.ofCells n cell) n =
    ⟨runSpec n cell, blockSpec n cell, windowSpec n cell, balanceSpec n cell⟩ := by
  rw [penalty, penaltyRuns_ofCells, penaltyBlocks_ofCells, penaltyFinder_ofCells, penaltyBalance_ofCells]

theorem total_penalty_ofCells : (penalty (Grid.ofCells n cell) n).total = scoreSpec n cell := by
  rw [penalty_ofCells]; rfl

end

/-! ### The bounds (R236) -/

theorem balanceSpec_le (n : Nat) (cell : Nat → Nat → Byte) : balanceSpec n cell ≤ 100 := by
  have hdark : darkSpec n cell ≤ n * n :=
    sumUpTo_le fun r _ => (sumUpTo_le (b := 1) fun c _ => by split <;> omega).trans (by omega)
  have hpercent : (100 * darkSpec n cell - 50 * (n * n) + (50 * (n * n) - 100 * darkSpec n cell)) /
      (5 * (n * n)) ≤ 10 := Nat.div_le_of_le_mul (by omega)
  exact Nat.mul_le_mul_left 10 hpercent

section
variable {n : Nat} (hn : n ≤ 57) (cell : Nat → Nat → Byte)
include hn

/-- 2·57 lines of at most 55. -/
theorem runSpec_le : runSpec n cell ≤ 6270 := by
  have hline (line : Nat → Byte) : sumUpTo n (runCostAt n line) ≤ 55 := by
    rw [← sum_runs]
    exact (sum_runs_le _).trans (by simp; omega)
  have : runSpec n cell ≤ n * 55 + n * 55 := sumLines_le hline cell
  omega

/-- 56² blocks of 3. -/
theorem blockSpec_le : blockSpec n cell ≤ 9408 := by
  have hrow (r : Nat) : (sumUpTo (n - 1) fun c =>
      if cell r c = cell r (c + 1) ∧ cell r c = cell (r + 1) c ∧ cell r c = cell (r + 1) (c + 1) then 3
      else 0) ≤ 56 * 3 :=
    (sumUpTo_le (b := 3) fun c _ => by split <;> omega).trans (by omega)
  have : blockSpec n cell ≤ (n - 1) * (56 * 3) := sumUpTo_le fun r _ => hrow r
  omega

/-- 2·57 lines of 47 windows of 40. -/
theorem windowSpec_le : windowSpec n cell ≤ 214320 := by
  have : windowSpec n cell ≤ n * (47 * 40) + n * (47 * 40) :=
    sumLines_le (fun line => (sumUpTo_le (b := 40) fun s _ => by split <;> omega).trans (by omega)) cell
  omega

theorem scoreSpec_lt : scoreSpec n cell < 2 ^ 32 := by
  have := runSpec_le hn cell
  have := blockSpec_le hn cell
  have := windowSpec_le hn cell
  have := balanceSpec_le n cell
  unfold scoreSpec
  omega

end

end Sys2Proof.Machine
end

section
/-! PROOFS. Masks (44_mask.md R230, R231, R239) and APPLYMASK (R240): the command stores the grid whose cell (r, c)
is State.maskedCell of Safety.lean, and masking a cell twice restores it. -/

namespace Sys2Proof.Machine

/-! ### Masks (R230, R231, R239) -/

theorem maskPred_iff (m : BitVec 3) (r c : Nat) : maskPred m r c = true ↔ maskHolds m r c := by
  have hcases : ∀ m : BitVec 3, m = 0 ∨ m = 1 ∨ m = 2 ∨ m = 3 ∨ m = 4 ∨ m = 5 ∨ m = 6 ∨ m = 7 := by decide
  rcases hcases m with rfl | rfl | rfl | rfl | rfl | rfl | rfl | rfl <;> simp [maskPred, maskHolds]

theorem maskCell_maskCell (m : BitVec 3) (r c : Nat) (x mk : Byte) :
    maskCell m r c (maskCell m r c x mk) mk = x := by
  unfold maskCell
  split
  · rw [BitVec.xor_assoc, BitVec.xor_self, BitVec.xor_zero]
  · rfl

theorem maskCell_le_one (m : BitVec 3) (r c : Nat) {x : Byte} (hx : x.toNat ≤ 1) (mk : Byte) :
    (maskCell m r c x mk).toNat ≤ 1 := by
  have hflip : ∀ x : Byte, x.toNat ≤ 1 → (x ^^^ 1).toNat ≤ 1 := by decide +kernel
  unfold maskCell
  split
  · exact hflip x hx
  · exact hx

theorem isBinary_iff : ∀ x : Byte, isBinary x = true ↔ x.toNat ≤ 1 := by decide +kernel

section
variable {n : Nat} (f k : Nat → Nat → Byte)

theorem maskGrid_ofCells (m : BitVec 3) : maskGrid (Grid.ofCells n f) (Grid.ofCells n k) m =
    Grid.ofCells n fun r c => maskCell m r c (f r c) (k r c) := by
  simp only [maskGrid, Grid.ofCells, List.zip_map', zipIdx_map_range]

theorem maskableBinary_ofCells : maskableBinary (Grid.ofCells n f) (Grid.ofCells n k) = true ↔
    ∀ r c, r < n → c < n → k r c ≠ 0 → (f r c).toNat ≤ 1 := by
  simp only [maskableBinary, Grid.ofCells, List.zip_map', List.all_eq_true, List.forall_mem_map, List.mem_range,
    Bool.or_eq_true, beq_iff_eq, isBinary_iff, or_iff_not_imp_left]
  exact ⟨fun h r c hr hc => h r hr c hc, fun h r hr c hc => h r c hr hc⟩

end

section
variable (s : State) (n : Nat)

theorem State.maskedCell_eq (m : BitVec 3) (r c : Nat) :
    s.maskedCell n m r c = maskCell m r c (s.gridCell n r c) (s.mapCell n r c) :=
  (if_congr (and_congr_right' (maskPred_iff m r c)) rfl rfl).symm

theorem maskGrid_readGrid (m : BitVec 3) : maskGrid (s.readGrid .grid n) (s.readGrid .maskMap n) m =
    Grid.ofCells n (s.maskedCell n m) := by
  rw [s.readGrid_grid_eq, s.readGrid_maskMap_eq, maskGrid_ofCells]
  simp only [← s.maskedCell_eq]

theorem maskableBinary_readGrid :
    maskableBinary (s.readGrid .grid n) (s.readGrid .maskMap n) = true ↔
      ∀ r c, r < n → c < n → s.mapCell n r c ≠ 0 → (s.gridCell n r c).toNat ≤ 1 := by
  rw [s.readGrid_grid_eq, s.readGrid_maskMap_eq, maskableBinary_ofCells]

theorem allCells_readGrid : (s.readGrid .grid n).allCells isBinary = true ↔
    ∀ r c, r < n → c < n → (s.gridCell n r c).toNat ≤ 1 := by
  simp only [s.readGrid_grid_eq, Grid.allCells_ofCells, isBinary_iff]

theorem not_allCells_readGrid (h : ∃ r c, r < n ∧ c < n ∧ 1 < (s.gridCell n r c).toNat) :
    ¬ (s.readGrid .grid n).allCells isBinary = true := fun hok => by
  obtain ⟨r, c, hr, hc, hgt⟩ := h
  exact absurd ((allCells_readGrid s n).1 hok r c hr hc) (by omega)

end

/-! ### APPLYMASK -/

/-- Completing with the n×n cells of GRID stored (R302). -/
theorem complete_writeGrid (s : State) (n : Nat) (cell : Nat → Nat → Byte) :
    ∃ t, complete (s.writeGrid .grid (Grid.ofCells n cell)) = .next t ∧ s.completedTo t ∧ onlyMemory s t ∧
      sameBytesOutside s t 0x2000 (n * n) ∧ ∀ r c, r < n → c < n → t.gridCell n r c = cell r c := by
  have hsq := Grid.ofCells_square (n := n) cell
  refine ⟨_, complete_eq _, ⟨rfl, rfl⟩, rfl, fun a ha => s.readByte_writeGrid_outside .grid hsq ha,
    fun r c hr hc => ?_⟩
  exact (s.readByte_writeGrid_inside .grid hsq hr hc).trans (Grid.at_ofCells cell hr hc)

section
variable {s : State} {v : Nat} (hat : s.atVersion v) (m : BitVec 3)
include hat

theorem execApplymask_refuses (h : ∃ r c, r < gridSide v ∧ c < gridSide v ∧ s.mapCell (gridSide v) r c ≠ 0 ∧
      1 < (s.gridCell (gridSide v) r c).toNat) :
    exec (.applymask m) s = .next (s.failed (.plain .badCell)) := by
  obtain ⟨r, c, hr, hc, hmap, hgt⟩ := h
  refine (withVersion_some hat _).trans (if_neg fun hok => ?_)
  exact absurd ((maskableBinary_readGrid s _).1 hok r c hr hc hmap) (by omega)

theorem execApplymask_masks (h : ∀ r c, r < gridSide v → c < gridSide v → s.mapCell (gridSide v) r c ≠ 0 →
      (s.gridCell (gridSide v) r c).toNat ≤ 1) :
    ∃ t, exec (.applymask m) s = .next t ∧ s.completedTo t ∧ onlyMemory s t ∧
      sameBytesOutside s t 0x2000 (gridSide v * gridSide v) ∧
      ∀ r c, r < gridSide v → c < gridSide v → t.gridCell (gridSide v) r c = s.maskedCell (gridSide v) m r c := by
  have hexec : exec (.applymask m) s =
      complete (s.writeGrid .grid (Grid.ofCells (gridSide v) (s.maskedCell (gridSide v) m))) := by
    rw [← maskGrid_readGrid]
    exact (withVersion_some hat _).trans (if_pos ((maskableBinary_readGrid s _).2 h))
  rw [hexec]
  exact complete_writeGrid s _ _

end

/-- MASKMAP lies outside the cells of GRID of a supported version. -/
theorem mapCell_of_sameBytesOutside {s t : State} {v : Nat} (hv : v ≤ 10)
    (h : sameBytesOutside s t 0x2000 (gridSide v * gridSide v)) (r c : Nat) :
    t.mapCell (gridSide v) r c = s.mapCell (gridSide v) r c :=
  h _ (.inr (by have := gridSide_sq_le hv; omega))

/-- The bytes of GRID's cells and the bytes outside them are all bytes. -/
theorem sameBytes_of_cells {s t : State} {n : Nat} (hout : sameBytesOutside s t 0x2000 (n * n))
    (hcells : ∀ r c, r < n → c < n → t.gridCell n r c = s.gridCell n r c) : sameBytes s t := by
  intro a
  by_cases ha : a < 0x2000 ∨ 0x2000 + n * n ≤ a
  · exact hout a ha
  · have hlt : a - 0x2000 < n * n := by omega
    have hn : 0 < n := Nat.pos_of_mul_pos_right (by omega : 0 < n * n)
    have hcell := hcells ((a - 0x2000) / n) ((a - 0x2000) % n) (Nat.div_lt_of_lt_mul hlt) (Nat.mod_lt _ hn)
    rw [State.gridCell, State.gridCell, Nat.div_add_mod', show 0x2000 + (a - 0x2000) = a by omega] at hcell
    exact hcell

end Sys2Proof.Machine
end

namespace Sys2Proof.Proofs

open Sys2Proof.Machine

/-- Settles O50: the command checks the maskable cells and stores the masked grid. -/
theorem applymaskFlipsMaskableCells : Obligations.ApplymaskFlipsMaskableCells :=
  fun m _ => ⟨fun h => withVersion_none h _, fun _ hat =>
    ⟨execApplymask_refuses hat m, execApplymask_masks hat m⟩⟩

/-- Settles O51: the second command finds the same MASKMAP, and masks every cell back. -/
theorem applymaskTwiceRestoresTheGrid : Obligations.ApplymaskTwiceRestoresTheGrid := by
  intro m s v hat hok
  have hv : v ≤ 10 := hat.2.2
  obtain ⟨t, hexec, -, honly, hframe, hcells⟩ := execApplymask_masks hat m hok
  have hmap := mapCell_of_sameBytesOutside hv hframe
  have hresolved : t.resolved = s.resolved := by rw [honly]
  have hat' : t.atVersion v := by rwa [State.atVersion, hresolved]
  obtain ⟨u, hexec', -, -, hframe', hcells'⟩ := execApplymask_masks hat' m fun r c hr hc hne => by
    rw [hmap] at hne
    rw [hcells r c hr hc, s.maskedCell_eq]
    exact maskCell_le_one m r c (hok r c hr hc hne) _
  refine ⟨t, u, hexec, hexec', sameBytes_of_cells (fun a ha => (hframe' a ha).trans (hframe a ha))
    fun r c hr hc => ?_⟩
  rw [hcells' r c hr hc, t.maskedCell_eq, hmap, hcells r c hr hc, s.maskedCell_eq, maskCell_maskCell]

end Sys2Proof.Proofs

section
/-! PROOFS. SCORE and SELECTMASK (44_mask.md R236, R237, R241, R242): the registers hold the scores of Safety.lean,
and the loop of R237 ends at the first of the least. -/

namespace Sys2Proof.Machine

/-! ### Scores in registers -/

/-- The bounds of R236 let the words of SCORE1..SCORE4 hold the components. -/
theorem scoresAre_of_words {t : State} {n : Nat} (hn : n ≤ 57) {cell : Nat → Nat → Byte}
    (h : t.score = (penalty (Grid.ofCells n cell) n).words) : t.scoresAre n cell := by
  rw [State.scoresAre, h, penalty_ofCells]
  exact ⟨toNat_ofNat_of_lt ((runSpec_le hn cell).trans_lt (by decide)),
    toNat_ofNat_of_lt ((blockSpec_le hn cell).trans_lt (by decide)),
    toNat_ofNat_of_lt ((windowSpec_le hn cell).trans_lt (by decide)),
    toNat_ofNat_of_lt ((balanceSpec_le n cell).trans_lt (by decide))⟩

/-! ### The least score (R237) -/

/-- b is the first of 0 … j at which f is least. -/
abbrev isFirstLeast (f : Nat → Nat) (j b : Nat) : Prop :=
  b ≤ j ∧ (∀ k ≤ j, f b ≤ f k) ∧ ∀ k < b, f b < f k

/-- One round of the loop: a later value replaces the incumbent only when strictly lower. -/
theorem isFirstLeast_succ {f : Nat → Nat} {j b : Nat} (h : isFirstLeast f j b) :
    isFirstLeast f (j + 1) (if f (j + 1) < f b then j + 1 else b) := by
  obtain ⟨hb, hle, hlt⟩ := h
  split
  case isTrue hless =>
    refine ⟨le_rfl, fun k hk => ?_, fun k hk => hless.trans_le (hle k (by omega))⟩
    rcases Nat.le_succ_iff.1 hk with hk | rfl
    · exact hless.le.trans (hle k hk)
    · exact le_rfl
  case isFalse hmore =>
    refine ⟨by omega, fun k hk => ?_, hlt⟩
    rcases Nat.le_succ_iff.1 hk with hk | rfl
    · exact hle k hk
    · exact Nat.le_of_not_lt hmore

theorem isFirstLeast_foldl (f : Nat → Nat) (j : Nat) : isFirstLeast f j
    ((List.range j).foldl (fun best k => if f (k + 1) < f best then k + 1 else best) 0) := by
  induction j with
  | zero => exact ⟨le_rfl, fun k hk => by rw [Nat.le_zero.1 hk]; rfl, fun k hk => by cases hk⟩
  | succ j ih =>
    rw [List.range_succ, List.foldl_append]
    exact isFirstLeast_succ ih

theorem isFirstLeast_congr {f f' : Nat → Nat} {j b : Nat} (hf : ∀ k ≤ j, f k = f' k) (h : isFirstLeast f j b) :
    isFirstLeast f' j b := by
  obtain ⟨hb, hle, hlt⟩ := h
  rw [isFirstLeast, ← hf b hb]
  exact ⟨hb, fun k hk => (hle k hk).trans_eq (hf k hk), fun k hk => (hlt k hk).trans_eq (hf k (hk.le.trans hb))⟩

theorem getD_map_range_eight (f : Nat → Nat) {k : Nat} (hk : k ≤ 7) : ((List.range 8).map f).getD k 0 = f k := by
  simp [List.getD_eq_getElem?_getD, show k < 8 by omega]

theorem winner_isFirstLeast (f : Nat → Nat) : isFirstLeast f 7 (winner ((List.range 8).map f)) :=
  isFirstLeast_congr (fun _ hk => getD_map_range_eight f hk) (isFirstLeast_foldl _ 7)

/-! ### The search (R237, R242) -/

section
variable (s : State) (n : Nat)

/-- The score of the candidate of mask id k. -/
def State.maskScore (k : Nat) : Nat := scoreSpec n (s.maskedCell n (BitVec.ofNat 3 k))

/-- The lowest mask id of least score. -/
def State.bestMask : Nat := winner ((List.range 8).map (s.maskScore n))

theorem bestMask_isFirstLeast : isFirstLeast (s.maskScore n) 7 (s.bestMask n) := winner_isFirstLeast _

theorem candidateScores_readGrid : candidateScores (s.readGrid .grid n) (s.readGrid .maskMap n) n =
    (List.range 8).map (s.maskScore n) := by
  simp only [candidateScores, maskGrid_readGrid, total_penalty_ofCells]
  rfl

theorem searchMask_readGrid : searchMask (s.readGrid .grid n) (s.readGrid .maskMap n) n =
    BitVec.ofNat 3 (s.bestMask n) := by
  rw [searchMask, candidateScores_readGrid, State.bestMask]

theorem State.recordSearch_eq (g mk : Grid) : s.recordSearch g mk n =
    { s with
      pen := penWords (candidateScores g mk n)
      score := (penalty (maskGrid g mk (searchMask g mk n)) n).words
      result := BitVec.ofNat 32 ((candidateScores g mk n).getD (winner (candidateScores g mk n)) 0)
      resolved := { s.resolved with mask := searchMask g mk n } } := by
  simp only [State.recordSearch, State.setPen, State.setScore, State.setResult, State.setMask, State.setResolved,
    searchMask]

/-- What the search leaves in the registers (R242). -/
theorem recordSearch_readGrid : s.recordSearch (s.readGrid .grid n) (s.readGrid .maskMap n) n =
    { s with
      pen := penWords ((List.range 8).map (s.maskScore n))
      score := (penalty (Grid.ofCells n (s.maskedCell n (BitVec.ofNat 3 (s.bestMask n)))) n).words
      result := BitVec.ofNat 32 (s.maskScore n (s.bestMask n))
      resolved := { s.resolved with mask := BitVec.ofNat 3 (s.bestMask n) } } := by
  have hb := (bestMask_isFirstLeast s n).1
  rw [State.recordSearch_eq, candidateScores_readGrid, searchMask_readGrid, maskGrid_readGrid, ← State.bestMask,
    getD_map_range_eight _ hb]

theorem searched_recordSearch {n : Nat} (hn : n ≤ 57) :
    (s.recordSearch (s.readGrid .grid n) (s.readGrid .maskMap n) n).searched n (s.maskedCell n) := by
  obtain ⟨hb, hle, hlt⟩ := bestMask_isFirstLeast s n
  have hid (m : BitVec 3) : scoreSpec n (s.maskedCell n m) = s.maskScore n m.toNat := by
    rw [State.maskScore, BitVec.ofNat_toNat, BitVec.setWidth_eq]
  have hbest : (BitVec.ofNat 3 (s.bestMask n)).toNat = s.bestMask n := toNat_ofNat_of_lt (by omega)
  rw [recordSearch_readGrid, State.searched]
  refine ⟨fun m => ?_, fun m hm => ?_, fun m => ?_, scoresAre_of_words hn rfl, ?_⟩
  · rw [hid m]
    exact hle _ (by omega)
  · rw [hbest] at hm
    rw [hid m]
    exact hlt _ hm
  · rw [penWords, Vector.get_ofFn, getD_map_range_eight _ (by omega), State.maskScore]
    exact toNat_ofNat_of_lt (scoreSpec_lt hn _)
  · exact toNat_ofNat_of_lt (scoreSpec_lt hn _)

theorem execSelectmask_searches {v : Nat} (hat : s.atVersion v)
    (h : ∀ r c, r < gridSide v → c < gridSide v → (s.gridCell (gridSide v) r c).toNat ≤ 1) :
    exec .selectmask s =
      complete ((s.recordSearch (s.readGrid .grid (gridSide v)) (s.readGrid .maskMap (gridSide v))
        (gridSide v)).writeGrid .grid (Grid.ofCells (gridSide v)
          (s.maskedCell (gridSide v) (BitVec.ofNat 3 (s.bestMask (gridSide v)))))) := by
  rw [← searchMask_readGrid, ← maskGrid_readGrid]
  exact (withVersion_some hat _).trans (if_pos ((allCells_readGrid s _).2 h))

end

end Sys2Proof.Machine
end

namespace Sys2Proof.Proofs

open Sys2Proof.Machine

/-- Settles O52: the penalties of the grid read are those of its cells, within the bounds of R236. -/
theorem scoreWritesTheFourComponents : Obligations.ScoreWritesTheFourComponents := by
  refine fun s => ⟨fun h => withVersion_none h _, fun v hat => ?_⟩
  have hn : gridSide v ≤ 57 := by unfold gridSide; omega
  refine ⟨fun hbad => (withVersion_some hat _).trans (if_neg (not_allCells_readGrid s _ hbad)), fun hle => ?_⟩
  refine ⟨_, (withVersion_some hat _).trans (if_pos ((allCells_readGrid s _).2 hle)), ⟨rfl, rfl⟩, fun _ => rfl, rfl,
    scoresAre_of_words hn (by rw [← s.readGrid_grid_eq]; rfl), ?_, runSpec_le hn _, blockSpec_le hn _,
    windowSpec_le hn _, balanceSpec_le _ _⟩
  rw [← toNat_ofNat_of_lt (scoreSpec_lt hn (s.gridCell (gridSide v))), ← total_penalty_ofCells,
    ← s.readGrid_grid_eq]
  rfl

/-- Settles O53: the search records the first least candidate and stores its grid. -/
theorem selectmaskPicksTheLeastScore : Obligations.SelectmaskPicksTheLeastScore := by
  refine fun s => ⟨fun h => withVersion_none h _, fun v hat => ?_⟩
  have hn : gridSide v ≤ 57 := by unfold gridSide; omega
  refine ⟨fun hbad => (withVersion_some hat _).trans (if_neg (not_allCells_readGrid s _ hbad)), fun hle => ?_⟩
  obtain ⟨t, ht, hdone, honly, hframe, hcells⟩ := complete_writeGrid
    (s.recordSearch (s.readGrid .grid (gridSide v)) (s.readGrid .maskMap (gridSide v)) (gridSide v)) (gridSide v)
    (s.maskedCell (gridSide v) (BitVec.ofNat 3 (s.bestMask (gridSide v))))
  have hsearched := searched_recordSearch s hn
  rw [recordSearch_readGrid] at hdone honly hframe hsearched
  have hmask : t.resolved.mask = BitVec.ofNat 3 (s.bestMask (gridSide v)) := by rw [honly]
  refine ⟨t, (execSelectmask_searches s hat hle).trans ht, hdone, by rw [honly], by rw [honly], ?_, hframe, ?_⟩
  · rw [honly]
    exact hsearched
  · rw [hmask]
    exact hcells

end Sys2Proof.Proofs

section
/-! PROOFS. FMTBITS and VERBITS (45_bch.md R260, R263): long division over GF(2) by a g of degree k + 1 cancels the
bits from the top down, so it subtracts a carry-less multiple of g and leaves at most k + 1 bits. Data bits followed
by that remainder are therefore a multiple of g themselves. -/

namespace Sys2Proof.Machine

/-! ### Carry-less multiples -/

/-- Bits of q from k on do not count. -/
theorem carrylessMul_congr {g q q' : Nat} : ∀ {k : Nat}, (∀ i < k, q.testBit i = q'.testBit i) →
    carrylessMul g q k = carrylessMul g q' k
  | 0, _ => rfl
  | k + 1, h => by
    rw [carrylessMul, carrylessMul, carrylessMul_congr fun i hi => h i (Nat.lt_succ_of_lt hi), h k k.lt_succ_self]

theorem carrylessMul_succ_of_lt {g q k : Nat} (hq : q < 2 ^ k) : carrylessMul g q (k + 1) = carrylessMul g q k := by
  simp [carrylessMul, Nat.testBit_lt_two_pow hq]

theorem carrylessMul_two_pow_add {g q k : Nat} (hq : q < 2 ^ k) :
    carrylessMul g (2 ^ k + q) (k + 1) = carrylessMul g q k ^^^ (g <<< k) := by
  have hlow : carrylessMul g (2 ^ k + q) k = carrylessMul g q k :=
    carrylessMul_congr fun i hi => Nat.testBit_two_pow_add_gt hi q
  simp [carrylessMul, hlow, Nat.testBit_two_pow_add_eq, Nat.testBit_lt_two_pow hq]

/-! ### Long division -/

/-- One step of `mod_GF2` at bit b (R260, R263): g shifted left by n cancels it. -/
def cancelBit (g b n a : Nat) : Nat := if a.testBit b then a ^^^ (g <<< n) else a

theorem modGf2_zero (g k a : Nat) : modGf2 g k (k + 1) a = a := by
  simp [modGf2]

theorem modGf2_succ (g k n a : Nat) :
    modGf2 g (k + (n + 1)) (k + 1) a = modGf2 g (k + n) (k + 1) (cancelBit g (k + (n + 1)) n a) := by
  have hsteps : k + (n + 1) + 1 - (k + 1) = n + 1 := by omega
  have hsteps' : k + n + 1 - (k + 1) = n := by omega
  have hbit (i : Nat) : k + (n + 1) - (i + 1) = k + n - i := by omega
  simp [modGf2, cancelBit, hsteps, hsteps', hbit, List.range_succ_eq_map, List.foldl_map]

/-- The step clears its bit when g has degree k + 1. -/
theorem cancelBit_lt {g k n a : Nat} (hg : g.testBit (k + 1) = true) (hg' : g < 2 ^ (k + 2))
    (ha : a < 2 ^ (k + (n + 1) + 1)) : cancelBit g (k + (n + 1)) n a < 2 ^ (k + n + 1) := by
  refine Nat.lt_pow_two_of_testBit _ fun i hi => ?_
  obtain rfl | hi : i = k + (n + 1) ∨ k + (n + 1) + 1 ≤ i := by omega
  · have hn : k + (n + 1) - n = k + 1 := by omega
    have hle : n ≤ k + (n + 1) := by omega
    unfold cancelBit
    split_ifs with hbit
    · simp [hbit, hn, hle, hg]
    · simpa using hbit
  · have ha0 : a.testBit i = false :=
      Nat.testBit_lt_two_pow (ha.trans_le (Nat.pow_le_pow_right two_pos hi))
    have hg0 : g.testBit (i - n) = false :=
      Nat.testBit_lt_two_pow (hg'.trans_le (Nat.pow_le_pow_right two_pos (by omega)))
    unfold cancelBit
    split_ifs <;> simp [ha0, hg0]

theorem modGf2_lt {g k : Nat} (hg : g.testBit (k + 1) = true) (hg' : g < 2 ^ (k + 2)) :
    ∀ (n : Nat) {a : Nat}, a < 2 ^ (k + n + 1) → modGf2 g (k + n) (k + 1) a < 2 ^ (k + 1)
  | 0, _, ha => by rwa [Nat.add_zero, modGf2_zero]
  | n + 1, _, ha => by
    rw [modGf2_succ]
    exact modGf2_lt hg hg' n (cancelBit_lt hg hg' ha)

/-- What n steps take away is a multiple of g by a quotient of n bits. -/
theorem xor_modGf2 (g k : Nat) :
    ∀ n a : Nat, ∃ q < 2 ^ n, a ^^^ modGf2 g (k + n) (k + 1) a = carrylessMul g q n
  | 0, a => ⟨0, by decide, by rw [Nat.add_zero, modGf2_zero, Nat.xor_self, carrylessMul]⟩
  | n + 1, a => by
    obtain ⟨q, hq, h⟩ := xor_modGf2 g k n (cancelBit g (k + (n + 1)) n a)
    rw [modGf2_succ]
    by_cases hbit : a.testBit (k + (n + 1)) = true
    · refine ⟨2 ^ n + q, by omega, ?_⟩
      rw [carrylessMul_two_pow_add hq, ← h, cancelBit, if_pos hbit, Nat.xor_right_comm,
        Nat.xor_xor_cancel_right]
    · refine ⟨q, by omega, ?_⟩
      rw [carrylessMul_succ_of_lt hq, ← h, cancelBit, if_neg hbit]

/-! ### Code words -/

/-- Data bits with their remainder by g under them, as R260 and R263 form both words. -/
def systematicWord (g k n d : Nat) : Nat := (d <<< (k + 1)) ||| modGf2 g (k + n) (k + 1) (d <<< (k + 1))

theorem shiftLeft_or_eq_xor {a b i : Nat} (hb : b < 2 ^ i) : (a <<< i) ||| b = (a <<< i) ^^^ b := by
  refine Nat.eq_of_testBit_eq fun j => ?_
  obtain hj | hj := Nat.lt_or_ge j i
  · simp [Nat.not_le.2 hj]
  · simp [Nat.testBit_lt_two_pow (hb.trans_le (Nat.pow_le_pow_right two_pos hj))]

section

variable {g k n d : Nat} (hg : g.testBit (k + 1) = true) (hg' : g < 2 ^ (k + 2)) (hd : d < 2 ^ n)
include hg hg' hd

theorem modGf2_shiftLeft_lt : modGf2 g (k + n) (k + 1) (d <<< (k + 1)) < 2 ^ (k + 1) := by
  refine modGf2_lt hg hg' n ?_
  rw [Nat.shiftLeft_eq, show k + n + 1 = n + (k + 1) by omega, pow_add 2 n]
  exact Nat.mul_lt_mul_of_pos_right hd (Nat.two_pow_pos _)

theorem systematicWord_div : systematicWord g k n d / 2 ^ (k + 1) = d := by
  rw [← Nat.shiftRight_eq_div_pow, systematicWord, Nat.shiftRight_or_distrib, Nat.shiftLeft_shiftRight,
    Nat.shiftRight_eq_zero _ _ (modGf2_shiftLeft_lt hg hg' hd), Nat.or_zero]

theorem systematicWord_isMultiple : ∃ q < 2 ^ n, systematicWord g k n d = carrylessMul g q n := by
  rw [systematicWord, shiftLeft_or_eq_xor (modGf2_shiftLeft_lt hg hg' hd)]
  exact xor_modGf2 g k n _

end

/-! ### The format word and the version word -/

/-- The five data bits (R260): the code of R60 for the level, then the mask. -/
theorem formatData_eq : ∀ (l : BitVec 2) (m : BitVec 3),
    (fmtEcl l <<< 3) ||| m.toNat = 8 * ([1, 0, 3, 2] : List Nat).getD l.toNat 0 + m.toNat := by decide

theorem formatData_lt (l : BitVec 2) (m : BitVec 3) : (fmtEcl l <<< 3) ||| m.toNat < 2 ^ 5 := by
  revert l m; decide

/-- XOR with the mask constant undoes itself (R260). -/
theorem formatWord_unmasked (l : BitVec 2) (m : BitVec 3) :
    formatWord l m ^^^ 0x5412 = systematicWord 0x537 9 5 ((fmtEcl l <<< 3) ||| m.toNat) :=
  Nat.xor_xor_cancel_right _ _

theorem versionWord_eq (v : Nat) : versionWord v = systematicWord 0x1F25 11 6 v := rfl

theorem versionWord_div {v : Nat} (hv : v < 64) : versionWord v / 2 ^ 12 = v :=
  systematicWord_div (g := 0x1F25) (k := 11) (n := 6) (by decide) (by decide) hv

theorem versionWord_lt {v : Nat} (hv : v < 64) : versionWord v < 2 ^ 18 := by
  have := versionWord_div hv
  omega

theorem versionWord_eq_versionEntry {v : Nat} (h7 : 7 ≤ v) (h10 : v ≤ 10) : versionWord v = versionEntry v :=
  (if_pos h7).symm.trans (versionRegWord_eq v (by omega))

end Sys2Proof.Machine
end

namespace Sys2Proof.Proofs

open Sys2Proof.Machine

/-- Settles O54: both words are data bits with their remainder under them, hence multiples of their generator. -/
theorem bchWordsAreCodewords : Obligations.BchWordsAreCodewords := by
  obtain ⟨-, -, -, -, -, -, -, hfmtbits, hverbits⟩ := operandsStandInTheirFields
  refine ⟨hfmtbits, hverbits, fun l m s => ?_, fun v s hv => ?_⟩
  · obtain ⟨t, hexec, hdone, honly, hresult⟩ := scalar_completes (BitVec.ofNat 32 (formatWord l m)) s
    have hd := formatData_lt l m
    have hword : t.result.toNat = formatWord l m := by
      rw [hresult, formatWord_eq]
      exact toNat_ofNat_of_lt ((formatEntry_lt l m).trans (by decide))
    refine ⟨t, hexec, hdone, honly, hword.trans (formatWord_eq l m), ?_, ?_⟩ <;> rw [hword, formatWord_unmasked]
    · rw [← formatData_eq]
      exact systematicWord_div (by decide) (by decide) hd
    · exact systematicWord_isMultiple (by decide) (by decide) hd
  · obtain ⟨t, hexec, hdone, honly, hresult⟩ := scalar_completes (BitVec.ofNat 32 (versionWord v)) s
    have hword : t.result.toNat = versionWord v := by
      rw [hresult]
      exact toNat_ofNat_of_lt ((versionWord_lt hv).trans (by decide))
    refine ⟨t, hexec, hdone, honly, by rw [hword, versionWord_div hv], ?_,
      fun h7 h10 => by rw [hword, versionWord_eq_versionEntry h7 h10], ?_⟩
    · rw [hword, versionWord_eq]
      exact systematicWord_isMultiple (by decide) (by decide) hv
    · rw [hresult]
      refine ⟨?_, ?_, ?_, ?_⟩ <;> rintro rfl <;> decide

end Sys2Proof.Proofs

section
/-! PROOFS. The buffers after ENCODE and after its stages (46_pipeline.md R281, R283): the codewords, the two grids and
every other byte, named once and followed through each store. -/

namespace Sys2Proof.Machine

/-! ### Runs of bytes and grids read back -/

theorem State.readBytes_eq_iff {s t : State} {base len : Nat} :
    t.readBytes base len = s.readBytes base len ↔ ∀ i < len, t.readByte (base + i) = s.readByte (base + i) := by
  simp only [State.readBytes, List.map_inj_left, List.mem_range]

/-- The rows of a grid, one after the other, are its n·n bytes (R46). -/
theorem State.flatten_readGrid (s : State) (b : Buf) (n : Nat) :
    (s.readGrid b n).flatten = s.readBytes b.base (n * n) := by
  have hrows (k : Nat) : ((List.range k).map fun r => s.readBytes (b.base + r * n) n).flatten =
      s.readBytes b.base (k * n) := by
    induction k with
    | zero => simp [State.readBytes]
    | succ k ih =>
      rw [List.range_succ, List.map_append, List.flatten_append, ih, Nat.succ_mul, State.readBytes_add]
      simp
  exact hrows n

/-- A run that reads the same has the same bytes. -/
theorem State.readByte_of_run {s t : State} {base len : Nat} (h : t.readBytes base len = s.readBytes base len) {a : Nat}
    (ha : ¬ (a < base ∨ base + len ≤ a)) : t.readByte a = s.readByte a := by
  have hbyte := State.readBytes_eq_iff.1 h (a - base) (by omega)
  rwa [Nat.add_sub_cancel' (by omega)] at hbyte

/-- A grid that reads the same is the same run of bytes. -/
theorem State.run_of_readGrid {s t : State} {b : Buf} {n : Nat} (h : t.readGrid b n = s.readGrid b n) :
    t.readBytes b.base (n * n) = s.readBytes b.base (n * n) := by
  rw [← State.flatten_readGrid, h, State.flatten_readGrid]

theorem State.readGrid_congr {s t : State} {b : Buf} {n : Nat}
    (h : ∀ i < n * n, t.readByte (b.base + i) = s.readByte (b.base + i)) : t.readGrid b n = s.readGrid b n := by
  refine Grid.square_ext (t.readGrid_square b n) (s.readGrid_square b n) fun r c hr hc => ?_
  rw [State.at_readGrid t b hr hc, State.at_readGrid s b hr hc, h _ (cell_index_lt hr hc)]

theorem gridOffset_inj {n r c r' c' : Nat} (hc : c < n) (hc' : c' < n)
    (h : gridOffset n r c = gridOffset n r' c') : (r, c) = (r', c') := by
  have hcell : n * r + c = n * r' + c' := by
    simpa only [Nat.mul_comm n] using Nat.add_left_cancel h
  have hn : 0 < n := by omega
  have hrow : r = r' := by
    simpa only [Nat.mul_add_div hn, Nat.div_eq_of_lt hc, Nat.div_eq_of_lt hc', Nat.add_zero] using
      congrArg (· / n) hcell
  subst hrow
  rw [Nat.add_left_cancel hcell]

/-- Storing one cell of GRID puts it into the grid it holds (R46). -/
theorem State.readGrid_writeCell (s : State) {n r c : Nat} (hr : r < n) (hc : c < n) (x : Byte) :
    (s.writeBytes (gridOffset n r c) [x]).readGrid .grid n = (s.readGrid .grid n).put r c x := by
  have hg := s.readGrid_square .grid n
  refine Grid.square_ext (State.readGrid_square _ .grid n) (Grid.square_put hg r c x) fun r' c' hr' hc' => ?_
  rw [State.at_readGrid _ .grid hr' hc']
  by_cases hcell : (r, c) = (r', c')
  · cases hcell
    rw [Grid.at_put_same hg hr hc]
    exact s.readByte_writeBytes_inside (gridOffset n r c) [x] (i := 0) (by simp)
  · have hne : gridOffset n r c ≠ gridOffset n r' c' := fun h => hcell (gridOffset_inj hc hc' h)
    rw [Grid.at_put_ne _ hcell, s.at_readGrid .grid hr' hc']
    exact s.readByte_writeBytes_outside (by simp only [List.length_singleton, gridOffset] at hne ⊢; omega)

/-- Storing a word's bits in cells of GRID puts them into the grid it holds (R264). -/
theorem State.readGrid_bitWrites (s : State) {n : Nat} (cells : List ((Nat × Nat) × Nat))
    (hin : ∀ p ∈ cells, p.1.1 < n ∧ p.1.2 < n) (w : Nat) :
    (s.writeCells (bitWrites n cells w)).readGrid .grid n = putBits (s.readGrid .grid n) cells w := by
  induction cells generalizing s with
  | nil => rfl
  | cons p cells ih =>
    rw [List.forall_mem_cons] at hin
    obtain ⟨⟨hr, hc⟩, hin⟩ := hin
    exact (ih _ hin).trans (by rw [s.readGrid_writeCell hr hc]; rfl)

/-! ### The bytes of a symbol -/

/-- The bytes of t are those of s, but for the codewords of its text in mode md at version v, the grid g in GRID and
the grid mk in MASKMAP. -/
structure holdsSymbol (s : State) (md : Mode) (v : Nat) (t : State) (g mk : Grid) : Prop where
  data : t.readBytes 0x1400 (ndata v s.config.ecl) = dataCw s.text md v s.config.ecl
  final : t.readBytes 0x1600 (ntotal v s.config.ecl) = finalCw (dataCw s.text md v s.config.ecl) v s.config.ecl
  grid : t.readGrid .grid (gridSide v) = g
  map : t.readGrid .maskMap (gridSide v) = mk
  frame : ∀ a, (a < 0x1400 ∨ 0x1400 + ndata v s.config.ecl ≤ a) →
    (a < 0x1600 ∨ 0x1600 + ntotal v s.config.ecl ≤ a) →
    (a < 0x2000 ∨ 0x2000 + gridSide v * gridSide v ≤ a) → (a < 0x3000 ∨ 0x3000 + gridSide v * gridSide v ≤ a) →
    t.readByte a = s.readByte a

theorem ntotal_le : ∀ v < 11, ∀ l : BitVec 2, ntotal v l ≤ 512 := by decide +kernel

theorem finalCw_length_of_length {d : List Byte} {v : Nat} {l : BitVec 2} (hv : v < 11) (hd : d.length = ndata v l) :
    (finalCw d v l).length = ntotal v l := by
  have hread : (State.reset.writeBytes 0x1400 d).readBytes 0x1400 (ndata v l) = d :=
    hd ▸ State.reset.readBytes_writeBytes 0x1400 d
  rw [← hread]
  exact finalCw_length hv

section
variable {s t u : State} {md : Mode} {v : Nat} {g mk g' mk' : Grid}

/-- These bytes are all bytes. -/
theorem holdsSymbol.sameBytes (ht : holdsSymbol s md v t g mk) (hu : holdsSymbol s md v u g mk) : sameBytes t u := by
  intro a
  by_cases h₁ : a < 0x1400 ∨ 0x1400 + ndata v s.config.ecl ≤ a
  · by_cases h₂ : a < 0x1600 ∨ 0x1600 + ntotal v s.config.ecl ≤ a
    · by_cases h₃ : a < 0x2000 ∨ 0x2000 + gridSide v * gridSide v ≤ a
      · by_cases h₄ : a < 0x3000 ∨ 0x3000 + gridSide v * gridSide v ≤ a
        · rw [hu.frame a h₁ h₂ h₃ h₄, ht.frame a h₁ h₂ h₃ h₄]
        · exact State.readByte_of_run (State.run_of_readGrid (b := .maskMap) (hu.map.trans ht.map.symm)) h₄
      · exact State.readByte_of_run (State.run_of_readGrid (b := .grid) (hu.grid.trans ht.grid.symm)) h₃
    · exact State.readByte_of_run (hu.final.trans ht.final.symm) h₂
  · exact State.readByte_of_run (hu.data.trans ht.data.symm) h₁

/-- Bytes outside the two grids may not change, the grids may. -/
theorem holdsSymbol.regrid (hv : v ≤ 10) (h : holdsSymbol s md v t g mk)
    (hout : sameBytesOutsideGrids t u (gridSide v)) (hg : u.readGrid .grid (gridSide v) = g')
    (hmk : u.readGrid .maskMap (gridSide v) = mk') : holdsSymbol s md v u g' mk' := by
  have hdata := ndata_le v (by omega) s.config.ecl
  have hfinal := ntotal_le v (by omega) s.config.ecl
  exact ⟨(State.readBytes_congr fun i hi => hout _ (.inl (by omega)) (.inl (by omega))).trans h.data,
    (State.readBytes_congr fun i hi => hout _ (.inl (by omega)) (.inl (by omega))).trans h.final, hg, hmk,
    fun a h₁ h₂ h₃ h₄ => (hout a h₃ h₄).trans (h.frame a h₁ h₂ h₃ h₄)⟩

/-- Both grids stored. -/
theorem holdsSymbol.writeGrids (hv : v ≤ 10) (h : holdsSymbol s md v t g mk) (hg : g'.square (gridSide v))
    (hmk : mk'.square (gridSide v)) :
    holdsSymbol s md v ((t.writeGrid .grid g').writeGrid .maskMap mk') g' mk' := by
  refine h.regrid hv (fun a h₃ h₄ => ?_) ?_ (State.readGrid_writeGrid_eq _ .maskMap hmk)
  · exact (State.readByte_writeGrid_outside _ .maskMap hmk h₄).trans (t.readByte_writeGrid_outside .grid hg h₃)
  · refine (State.readGrid_congr fun i hi => ?_).trans (t.readGrid_writeGrid_eq .grid hg)
    have hsq := gridSide_sq_le hv
    exact State.readByte_writeGrid_outside _ .maskMap hmk (.inl (by simp only [Buf.base]; omega))

/-- Bytes outside GRID may not change, the grid in it may. -/
theorem holdsSymbol.regridOnly (hv : v ≤ 10) (h : holdsSymbol s md v t g mk)
    (hout : sameBytesOutside t u 0x2000 (gridSide v * gridSide v)) (hg : u.readGrid .grid (gridSide v) = g') :
    holdsSymbol s md v u g' mk := by
  have hsq := gridSide_sq_le hv
  refine h.regrid hv (fun a h₃ _ => hout a h₃) hg ((State.readGrid_congr fun i hi => ?_).trans h.map)
  exact hout _ (.inr (by simp only [Buf.base]; omega))

theorem holdsSymbol.writeGrid (hv : v ≤ 10) (h : holdsSymbol s md v t g mk) (hg : g'.square (gridSide v)) :
    holdsSymbol s md v (t.writeGrid .grid g') g' mk :=
  h.regridOnly hv (fun _ ha => t.readByte_writeGrid_outside .grid hg ha) (t.readGrid_writeGrid_eq .grid hg)

/-- A word's bits stored in cells of GRID. -/
theorem holdsSymbol.bitWrites (hv : v ≤ 10) (h : holdsSymbol s md v t g mk) {cells : List ((Nat × Nat) × Nat)}
    (hin : ∀ p ∈ cells, p.1.1 < gridSide v ∧ p.1.2 < gridSide v) (w : Nat) :
    holdsSymbol s md v (t.writeCells (bitWrites (gridSide v) cells w)) (putBits g cells w) mk := by
  refine h.regridOnly hv (fun a ha => ?_) (by rw [t.readGrid_bitWrites cells hin, h.grid])
  refine t.readByte_bitWrites_outside w fun p hp => ?_
  have hlt := cell_index_lt (hin p hp).1 (hin p hp).2
  simp only [gridOffset, Buf.base]
  omega

/-- A state with the same bytes holds the same. -/
theorem holdsSymbol.of_sameBytes (h : holdsSymbol s md v t g mk) (hb : Machine.sameBytes t u) :
    holdsSymbol s md v u g mk :=
  ⟨(State.readBytes_congr fun _ _ => hb _).trans h.data, (State.readBytes_congr fun _ _ => hb _).trans h.final,
    (State.readGrid_congr fun _ _ => hb _).trans h.grid, (State.readGrid_congr fun _ _ => hb _).trans h.map,
    fun a h₁ h₂ h₃ h₄ => (hb a).trans (h.frame a h₁ h₂ h₃ h₄)⟩

/-- The codewords stored, the grids are still those of the state before. -/
theorem holdsSymbol_encodeStream (hv : v ≤ 10) (hfit : fits s.level md s.len v = true) :
    holdsSymbol s md v (s.encodeStream md v) (s.readGrid .grid (gridSide v)) (s.readGrid .maskMap (gridSide v)) := by
  have hd : (dataCw s.text md v s.config.ecl).length = ndata v s.config.ecl :=
    dataCw_length (by rw [s.text_length]; exact hfit)
  have hf := finalCw_length_of_length (show v < 11 by omega) hd
  have hdata := ndata_le v (by omega) s.config.ecl
  have hfinal := ntotal_le v (by omega) s.config.ecl
  have hframe : ∀ a, (a < 0x1400 ∨ 0x1400 + ndata v s.config.ecl ≤ a) →
      (a < 0x1600 ∨ 0x1600 + ntotal v s.config.ecl ≤ a) → (s.encodeStream md v).readByte a = s.readByte a :=
    fun a h₁ h₂ => (State.readByte_writeBytes_outside _ (by rw [← hf] at h₂; exact h₂)).trans
      (State.readByte_writeBytes_outside _ (by rw [← hd] at h₁; exact h₁))
  refine ⟨?_, ?_, State.readGrid_congr fun i hi => ?_, State.readGrid_congr fun i hi => ?_,
    fun a h₁ h₂ _ _ => hframe a h₁ h₂⟩
  · refine (State.readBytes_congr fun i hi => State.readByte_writeBytes_outside _ (.inl ?_)).trans
      (hd ▸ State.readBytes_writeBytes _ _ _)
    simp only [Buf.base]; omega
  · exact hf ▸ State.readBytes_writeBytes _ _ _
  · exact hframe _ (.inr (by simp only [Buf.base]; omega)) (.inr (by simp only [Buf.base]; omega))
  · exact hframe _ (.inr (by simp only [Buf.base]; omega)) (.inr (by simp only [Buf.base]; omega))

end

end Sys2Proof.Machine
end

section
/-! PROOFS. The cells of the finished symbol (46_pipeline.md R281): the version cells hold VERWORD's bits, the format
cells FORMAT's, and every other cell is the placed grid's, masked. So every cell is Light or Dark (R284). -/

namespace Sys2Proof.Machine

/-! ### The masked grid as cells -/

theorem maskedAt_eq (g mk : Grid) (m : BitVec 3) (r c : Nat) :
    maskedAt g mk m r c = maskCell m r c (g.at r c) (Grid.at mk r c) :=
  (if_congr (and_congr_right' (maskPred_iff m r c)) rfl rfl).symm

/-- A square grid is the grid of its cells. -/
theorem Grid.eq_ofCells {g : Grid} {n : Nat} (hg : g.square n) : g = Grid.ofCells n (Grid.at g) :=
  Grid.square_ext hg (Grid.ofCells_square _) fun _ _ hr hc => (Grid.at_ofCells _ hr hc).symm

theorem maskGrid_eq_ofCells {g mk : Grid} {n : Nat} (hg : g.square n) (hmk : mk.square n) (m : BitVec 3) :
    maskGrid g mk m = Grid.ofCells n (maskedAt g mk m) := by
  rw [show maskedAt g mk m = fun r c => maskCell m r c (g.at r c) (Grid.at mk r c) from
    funext₂ (maskedAt_eq g mk m), ← maskGrid_ofCells, ← Grid.eq_ofCells hg, ← Grid.eq_ofCells hmk]

/-! ### The placed grid -/

theorem lightOrDark_iff (x : Byte) : isLightOrDark x ↔ x.toNat ≤ 1 := by
  rw [← isBinary_iff, isBinary, Bool.or_eq_true, beq_iff_eq, beq_iff_eq]

/-- The placed grid passed the checks of PLACEDATA, so it is Light or Dark everywhere (R214, R284). -/
theorem at_encodeGrid_le_one {v : Nat} (hv : 1 ≤ v) (hv' : v ≤ 10) (t : List Byte) (md : Mode) (l : BitVec 2)
    {r c : Nat} (hr : r < gridSide v) (hc : c < gridSide v) : (Grid.at (encodeGrid t md v l) r c).toNat ≤ 1 := by
  obtain ⟨hle, h6, -⟩ := (placeable_iff (buildGrid_square v) l).1 (placeable_buildGrid hv hv' l)
  exact (lightOrDark_iff _).1 (placeGrid_lightOrDark (buildGrid_square v) hv hv' hle h6 _ _ hr hc)

/-! ### The metadata cells -/

/-- No two metadata cells are the same (R206, R208). -/
theorem metadataCells_distinct : ∀ v < 11, 1 ≤ v →
    ((formatCells (gridSide v)).map Prod.fst ++ (versionCellsOf v).map Prod.fst).Nodup := by decide +kernel

theorem at_putBits_of_notMem (g : Grid) {cells : List ((Nat × Nat) × Nat)} (w : Nat) {r c : Nat}
    (h : (r, c) ∉ cells.map Prod.fst) : Grid.at (putBits g cells w) r c = g.at r c :=
  Grid.at_foldl_put_of_notMem (pos := Prod.fst) (val := fun p => bitCell w p.2) cells g h

theorem at_putBits_of_mem {g : Grid} {n : Nat} (hg : g.square n) {cells : List ((Nat × Nat) × Nat)}
    (hd : (cells.map Prod.fst).Nodup) (w : Nat) {p : (Nat × Nat) × Nat} (hp : p ∈ cells)
    (hin : p.1.1 < n ∧ p.1.2 < n) : Grid.at (putBits g cells w) p.1.1 p.1.2 = bitCell w p.2 :=
  Grid.at_foldl_put_of_mem (pos := Prod.fst) (val := fun p => bitCell w p.2) hg hd hp hin.1 hin.2

section
variable {g mk : Grid} {v : Nat} (hg : g.square (gridSide v)) (hmk : mk.square (gridSide v)) (hv : 1 ≤ v)
  (hv' : v ≤ 10) (l : BitVec 2) (m : BitVec 3)

include hg hmk in
theorem at_finishGrid_other {r c : Nat} (hr : r < gridSide v) (hc : c < gridSide v)
    (hformat : (r, c) ∉ (formatCells (gridSide v)).map Prod.fst)
    (hversion : (r, c) ∉ (versionCellsOf v).map Prod.fst) :
    Grid.at (finishGrid g mk v l m) r c = maskedAt g mk m r c := by
  rw [finishGrid, at_putBits_of_notMem _ _ hversion, at_putBits_of_notMem _ _ hformat, maskGrid_eq_ofCells hg hmk,
    Grid.at_ofCells _ hr hc]

include hg hmk hv hv'

theorem at_finishGrid_format {p : (Nat × Nat) × Nat} (hp : p ∈ formatCells (gridSide v)) :
    Grid.at (finishGrid g mk v l m) p.1.1 p.1.2 = bitCell (formatWord l m) p.2 := by
  obtain ⟨hd, -, hdisjoint⟩ := List.nodup_append.1 (metadataCells_distinct v (by omega) hv)
  have hp1 : p.1 ∈ (formatCells (gridSide v)).map Prod.fst := List.mem_map_of_mem hp
  rw [finishGrid, at_putBits_of_notMem _ _ fun h => hdisjoint _ hp1 _ h rfl]
  exact at_putBits_of_mem (maskGrid_square hg hmk m) hd _ hp (formatCells_inside (by unfold gridSide; omega) hp)

theorem at_finishGrid_version {p : (Nat × Nat) × Nat} (hp : p ∈ versionCellsOf v) :
    Grid.at (finishGrid g mk v l m) p.1.1 p.1.2 = bitCell (versionRegWord v) p.2 := by
  obtain ⟨-, hd, -⟩ := List.nodup_append.1 (metadataCells_distinct v (by omega) hv)
  exact at_putBits_of_mem (putBits_square (maskGrid_square hg hmk m) _ _) hd _ hp (versionCellsOf_inside hp)

/-- Every cell of the symbol is Light or Dark when the placed grid's cells are. -/
theorem at_finishGrid_le_one (hbin : ∀ r c, r < gridSide v → c < gridSide v → (g.at r c).toNat ≤ 1) {r c : Nat}
    (hr : r < gridSide v) (hc : c < gridSide v) : (Grid.at (finishGrid g mk v l m) r c).toNat ≤ 1 := by
  have hbit (w i : Nat) : (bitCell w i).toNat ≤ 1 := by
    unfold bitCell
    split <;> decide
  by_cases hversion : (r, c) ∈ (versionCellsOf v).map Prod.fst
  · obtain ⟨⟨-, i⟩, hp, rfl⟩ := List.mem_map.1 hversion
    exact (at_finishGrid_version hg hmk hv hv' l m hp) ▸ hbit _ i
  · by_cases hformat : (r, c) ∈ (formatCells (gridSide v)).map Prod.fst
    · obtain ⟨⟨-, i⟩, hp, rfl⟩ := List.mem_map.1 hformat
      exact (at_finishGrid_format hg hmk hv hv' l m hp) ▸ hbit _ i
    · rw [at_finishGrid_other hg hmk l m hr hc hformat hversion, maskedAt_eq]
      exact maskCell_le_one m r c (hbin r c hr hc) _

end

end Sys2Proof.Machine
end

section
/-! PROOFS. ENCODE (46_pipeline.md R281): what each check answers, and what the success leaves in the registers and in
the buffers. -/

namespace Sys2Proof.Machine

/-- The checks of R153 settle mode md and version v. -/
structure State.settles (s : State) (md : Mode) (v : Nat) : Prop where
  choice : s.chooseModeVersion = .ok (md, v)
  vreq_le : s.config.vreq.toNat ≤ 10
  one_le : 1 ≤ v
  le_ten : v ≤ 10
  len_le : s.len ≤ 1024
  eligible : eligible md s.text = true
  fits : fits s.level md s.len v = true

theorem State.settles_of_choice {s : State} {md : Mode} {v : Nat} (hreq : s.config.vreq.toNat ≤ 10)
    (h : s.chooseModeVersion = .ok (md, v)) : s.settles md v := by
  rcases s.chooseModeVersion_cases with ⟨-, he⟩ | ⟨md', -, hlen, ⟨-, he⟩ | ⟨-, -, he⟩ | ⟨v', hel, hv, he⟩⟩ <;>
    rw [he] at h <;> cases h
  obtain ⟨hlo, hhi, hfit, -⟩ := (chooseVersion_eq_some hreq).1 hv
  exact ⟨he, hreq, hlo, hhi, hlen, hel, hfit⟩

/-- RESOLVED.VER holds the version settled whole (R32). -/
theorem State.settles.atVersion {s u : State} {md : Mode} {v : Nat} (h : s.settles md v)
    (hver : u.resolved.ver = BitVec.ofNat 4 v) : u.atVersion v := by
  have hle := h.le_ten
  exact ⟨by rw [hver]; exact toNat_ofNat_of_lt (by omega), h.one_le, hle⟩

/-! ### The checks -/

section
variable {s : State}

theorem execEncode_badConfig (h : 10 < s.config.vreq.toNat ∨ 8 < s.config.mreq.toNat) :
    execEncode s = raise (.plain .badConfig) s := if_pos h

section
variable (hreq : s.config.vreq.toNat ≤ 10) (hmreq : s.config.mreq.toNat ≤ 8)
include hreq hmreq

theorem execEncode_error {e : CmdError} (h : s.chooseModeVersion = .error e) : execEncode s = raise e s := by
  rw [execEncode, if_neg (by omega), h]

theorem execEncode_ok {md : Mode} {v : Nat} (h : s.chooseModeVersion = .ok (md, v)) :
    execEncode s = complete (s.encodeAs md v) := by
  rw [execEncode, if_neg (by omega), h]

end

/-- An ENCODE that raised no error passed all checks. -/
theorem execEncode_succeeds {t : State} (h : execEncode s = .next t) (ht : t.status.err = false) :
    ∃ md v, s.settles md v ∧ s.config.mreq.toNat ≤ 8 := by
  have hno (e : CmdError) (he : execEncode s = raise e s) : False := by
    rw [raise_next (he.symm.trans h)] at ht
    simp at ht
  by_cases hbad : 10 < s.config.vreq.toNat ∨ 8 < s.config.mreq.toNat
  · exact (hno _ (execEncode_badConfig hbad)).elim
  · cases hc : s.chooseModeVersion with
    | error e => exact (hno e (execEncode_error (by omega) (by omega) hc)).elim
    | ok p => exact ⟨p.1, p.2, State.settles_of_choice (by omega) hc, by omega⟩

end

/-! ### The mask (step 6) -/

theorem encodeMask_search {mreq : BitVec 4} (h : mreq.toNat = 8) (g mk : Grid) (n : Nat) :
    encodeMask mreq g mk n = searchMask g mk n := if_pos h

theorem encodeMask_fixed {mreq : BitVec 4} (h : mreq.toNat ≤ 7) (g mk : Grid) (n : Nat) :
    encodeMask mreq g mk n = BitVec.ofNat 3 mreq.toNat := if_neg (by omega)

theorem State.encodeSelect_search {s : State} (h : s.config.mreq.toNat = 8) (g mk : Grid) (n : Nat) :
    s.encodeSelect g mk n = s.recordSearch g mk n := if_pos h

theorem State.encodeSelect_fixed {s : State} (h : s.config.mreq.toNat ≤ 7) (g mk : Grid) (n : Nat) :
    s.encodeSelect g mk n = s.setMask (BitVec.ofNat 3 s.config.mreq.toNat) := by
  rw [State.encodeSelect, if_neg (by omega), encodeMask_fixed h]

/-- Step 6 writes RESOLVED.MASK and, for a search, the registers of R242. -/
theorem State.encodeSelect_eq (s : State) (g mk : Grid) (n : Nat) : s.encodeSelect g mk n =
    { s with
      pen := (s.encodeSelect g mk n).pen
      score := (s.encodeSelect g mk n).score
      result := (s.encodeSelect g mk n).result
      resolved := { s.resolved with mask := encodeMask s.config.mreq g mk n } } := by
  unfold State.encodeSelect encodeMask
  split
  · rw [State.recordSearch_eq]
  · rfl

/-! ### The registers and buffers left -/

/-- The state a completing command leaves (R302). -/
def State.completed (s : State) : State := { s with status := { s.status with done := true }, phase := .idle }

/-- t has the registers of r, with the command completed (R302), and whatever memory. -/
def ranTo (r t : State) : Prop := ∃ m, t = ({ r with mem := m } : State).completed

section
variable (s : State) (md : Mode) (v : Nat)

/-- The grid of steps 4 and 5 for the text and level of s. -/
def State.placedGrid : Grid := encodeGrid s.text md v s.config.ecl

/-- The mask ENCODE puts on it (step 6). -/
def State.chosenMask : BitVec 3 := encodeMask s.config.mreq (s.placedGrid md v) (encodeMap v) (gridSide v)

/-- The symbol's grid (R281). -/
def State.symbolGrid : Grid :=
  finishGrid (s.placedGrid md v) (encodeMap v) v s.config.ecl (s.chosenMask md v)

/-- The registers ENCODE writes (R281). -/
def State.encodeRegs : State :=
  (((s.encodeStream md v).encodeSelect (s.placedGrid md v) (encodeMap v) (gridSide v)).setFormat
    (BitVec.ofNat 15 (formatWord s.config.ecl (s.chosenMask md v)))).setVerWord (BitVec.ofNat 18 (versionRegWord v))

theorem State.placedGrid_square : (s.placedGrid md v).square (gridSide v) := encodeGrid_square _ _ _ _

theorem State.symbolGrid_square : (s.symbolGrid md v).square (gridSide v) :=
  finishGrid_square (s.placedGrid_square md v) (encodeMap_square v) _ _

end

/-- What a successful ENCODE leaves: its registers, and the symbol in the buffers (R281). -/
structure State.encodedTo (s : State) (md : Mode) (v : Nat) (t : State) : Prop where
  regs : ranTo (s.encodeRegs md v) t
  bytes : holdsSymbol s md v t (s.symbolGrid md v) (encodeMap v)

/-- Completing with both grids and the two metadata words stored (R302). -/
theorem complete_writeSymbol {s x : State} {md : Mode} {v : Nat} {g mk g' mk' : Grid} (hv : v ≤ 10)
    (h : holdsSymbol s md v x g mk) (hg : g'.square (gridSide v)) (hmk : mk'.square (gridSide v)) (f : BitVec 15)
    (w : BitVec 18) :
    ∃ t, complete ((((x.writeGrid .grid g').writeGrid .maskMap mk').setFormat f).setVerWord w) = .next t ∧
      ranTo ((x.setFormat f).setVerWord w) t ∧ holdsSymbol s md v t g' mk' :=
  ⟨_, complete_eq _, ⟨_, rfl⟩, (h.writeGrids hv hg hmk).of_sameBytes fun _ => rfl⟩

theorem execEncode_commits {s : State} {md : Mode} {v : Nat} (h : s.settles md v) (hmreq : s.config.mreq.toNat ≤ 8) :
    ∃ t, execEncode s = .next t ∧ s.encodedTo md v t := by
  have hselect : sameBytes (s.encodeStream md v) ((s.encodeStream md v).encodeSelect (s.placedGrid md v) (encodeMap v)
      (gridSide v)) := State.readByte_congr (by simp) (by rw [State.encodeSelect_eq])
  obtain ⟨t, ht, hregs, hbytes⟩ := complete_writeSymbol h.le_ten
    ((holdsSymbol_encodeStream h.le_ten h.fits).of_sameBytes hselect) (s.symbolGrid_square md v) (encodeMap_square v)
    (BitVec.ofNat 15 (formatWord s.config.ecl (s.chosenMask md v))) (BitVec.ofNat 18 (versionRegWord v))
  exact ⟨t, (execEncode_ok h.vreq_le hmreq h.choice).trans ht, hregs, hbytes⟩

theorem execEncode_encodedTo {s t : State} (h : execEncode s = .next t) (ht : t.status.err = false) :
    ∃ md v, s.settles md v ∧ s.config.mreq.toNat ≤ 8 ∧ s.encodedTo md v t := by
  obtain ⟨md, v, hs, hmreq⟩ := execEncode_succeeds h ht
  obtain ⟨u, hu, henc⟩ := execEncode_commits hs hmreq
  obtain rfl : t = u := Host.Outcome.next.inj (h.symm.trans hu)
  exact ⟨md, v, hs, hmreq, henc⟩

end Sys2Proof.Machine
end

section
/-! PROOFS. What a successful ENCODE leaves (46_pipeline.md R281, R284), register by register and cell by cell. -/

namespace Sys2Proof.Machine

/-! ### The scores of the search -/

/-- The components of a score depend on the cells inside the grid alone. -/
theorem specs_congr {n : Nat} {cell cell' : Nat → Nat → Byte} (h : Grid.ofCells n cell = Grid.ofCells n cell') :
    runSpec n cell = runSpec n cell' ∧ blockSpec n cell = blockSpec n cell' ∧
      windowSpec n cell = windowSpec n cell' ∧ balanceSpec n cell = balanceSpec n cell' := by
  have hpenalty := congrArg (penalty · n) h
  simpa only [penalty_ofCells, Penalty.mk.injEq] using hpenalty

theorem State.searched_congr {t : State} {n : Nat} {cells cells' : BitVec 3 → Nat → Nat → Byte}
    (h : ∀ m, Grid.ofCells n (cells m) = Grid.ofCells n (cells' m)) (hs : t.searched n cells) :
    t.searched n cells' := by
  have hspecs (m : BitVec 3) := specs_congr (h m)
  have hscore (m : BitVec 3) : scoreSpec n (cells m) = scoreSpec n (cells' m) := by
    simp only [scoreSpec, hspecs m]
  simpa only [State.searched, State.scoresAre, hscore, hspecs] using hs

section
variable {s t : State} {md : Mode} {v : Nat}

theorem State.encodeStream_eq (s : State) (md : Mode) (v : Nat) : s.encodeStream md v =
    { s with
      resolved := ⟨BitVec.ofNat 4 v, md.code, s.resolved.mask⟩
      bitLen := BitVec.ofNat 16 (streamBits v md s.len)
      mem := (s.encodeStream md v).mem } := rfl

theorem State.encodeRegs_eq (s : State) (md : Mode) (v : Nat) : s.encodeRegs md v =
    { s with
      resolved := ⟨BitVec.ofNat 4 v, md.code, s.chosenMask md v⟩
      bitLen := BitVec.ofNat 16 (streamBits v md s.len)
      mem := (s.encodeRegs md v).mem
      pen := (s.encodeRegs md v).pen
      score := (s.encodeRegs md v).score
      result := (s.encodeRegs md v).result
      format := BitVec.ofNat 15 (formatWord s.config.ecl (s.chosenMask md v))
      verWord := BitVec.ofNat 18 (versionRegWord v) } := by
  rw [State.encodeRegs, State.encodeSelect_eq, State.encodeStream_eq]
  generalize BitVec.ofNat 15 _ = f, BitVec.ofNat 18 _ = w, (State.encodeSelect _ _ _ _) = u
  rfl

/-- With a fixed mask nothing is scored (R281). -/
theorem State.encodeRegs_fixed (h : s.config.mreq.toNat ≤ 7) : (s.encodeRegs md v).result = s.result ∧
    (s.encodeRegs md v).pen = s.pen ∧ (s.encodeRegs md v).score = s.score := by
  rw [State.encodeRegs, State.encodeSelect_fixed (s := s.encodeStream md v) h]
  simp [State.encodeStream]

/-- With a search the registers of R242 depend on the placed grid alone. -/
theorem State.encodeRegs_search (h : s.config.mreq.toNat = 8) :
    (s.encodeRegs md v).result = BitVec.ofNat 32 ((candidateScores (s.placedGrid md v) (encodeMap v) (gridSide v)).getD
      (winner (candidateScores (s.placedGrid md v) (encodeMap v) (gridSide v))) 0) ∧
    (s.encodeRegs md v).pen = penWords (candidateScores (s.placedGrid md v) (encodeMap v) (gridSide v)) ∧
    (s.encodeRegs md v).score = (penalty (maskGrid (s.placedGrid md v) (encodeMap v)
      (searchMask (s.placedGrid md v) (encodeMap v) (gridSide v))) (gridSide v)).words := by
  rw [State.encodeRegs, State.encodeSelect_search (s := s.encodeStream md v) h, State.recordSearch_eq]
  simp

/-- The registers a successful ENCODE leaves. -/
theorem State.encodedTo.eq (h : s.encodedTo md v t) : t =
    { s with
      resolved := ⟨BitVec.ofNat 4 v, md.code, s.chosenMask md v⟩
      bitLen := BitVec.ofNat 16 (streamBits v md s.len)
      mem := t.mem
      pen := (s.encodeRegs md v).pen
      score := (s.encodeRegs md v).score
      result := (s.encodeRegs md v).result
      format := BitVec.ofNat 15 (formatWord s.config.ecl (s.chosenMask md v))
      verWord := BitVec.ofNat 18 (versionRegWord v)
      status := { s.status with done := true }
      phase := .idle } := by
  obtain ⟨m, hm⟩ := h.regs
  rw [s.encodeRegs_eq] at hm
  rw [hm]
  rfl

theorem State.encodedTo.resolved (h : s.encodedTo md v t) :
    t.resolved = ⟨BitVec.ofNat 4 v, md.code, s.chosenMask md v⟩ := by rw [h.eq]

theorem State.encodedTo.atVersion (h : s.encodedTo md v t) (hs : s.settles md v) : t.atVersion v :=
  hs.atVersion (by rw [h.resolved])

theorem State.encodedTo.sizeReg (h : s.encodedTo md v t) (hs : s.settles md v) : t.sizeReg = gridSide v :=
  State.sizeReg_of_version (State.resolvedVersion_eq_some.2 (h.atVersion hs))

theorem State.encodedTo.gridCell (h : s.encodedTo md v t) {r c : Nat} (hr : r < gridSide v) (hc : c < gridSide v) :
    t.gridCell (gridSide v) r c = (s.symbolGrid md v).at r c := by
  rw [t.gridCell_eq hr hc, h.bytes.grid]

theorem State.encodedTo.mapCell (h : s.encodedTo md v t) {r c : Nat} (hr : r < gridSide v) (hc : c < gridSide v) :
    t.mapCell (gridSide v) r c = Grid.at (encodeMap v) r c := by
  rw [t.mapCell_eq hr hc, h.bytes.map]

end

end Sys2Proof.Machine
end

namespace Sys2Proof.Proofs

open Sys2Proof.Machine

/-- Settles O60: the placed grid is Light or Dark, masking keeps it so, and the metadata cells are bits. -/
theorem encodeLeavesNoUndeterminedCell : Obligations.EncodeLeavesNoUndeterminedCell := by
  intro s t _ hexec ht r c hr hc
  obtain ⟨md, v, hs, -, henc⟩ := execEncode_encodedTo hexec ht
  rw [henc.sizeReg hs] at hr hc ⊢
  rw [henc.gridCell hr hc]
  refine (lightOrDark_iff _).2 ?_
  exact at_finishGrid_le_one (s.placedGrid_square md v) (encodeMap_square v) hs.one_le hs.le_ten _ _
    (fun r c hr hc => at_encodeGrid_le_one hs.one_le hs.le_ten _ _ _ hr hc) hr hc

end Sys2Proof.Proofs

section
/-! PROOFS. ENCODE reads the text, its length and CONFIG alone (46_pipeline.md R284). -/

namespace Sys2Proof.Machine

/-- The two states agree on the text, its length and CONFIG. -/
structure sameInputs (s₁ s₂ : State) : Prop where
  config : s₁.config = s₂.config
  textLen : s₁.textLen = s₂.textLen
  text : s₁.text = s₂.text

section
variable {s₁ s₂ : State} (h : sameInputs s₁ s₂) (md : Mode) (v : Nat)
include h

theorem sameInputs.len : s₁.len = s₂.len := by rw [State.len, h.textLen, State.len]

theorem sameInputs.chooseModeVersion : s₁.chooseModeVersion = s₂.chooseModeVersion := by
  simp only [State.chooseModeVersion, State.level, h.config, h.text, h.len]

theorem sameInputs.placedGrid : s₁.placedGrid md v = s₂.placedGrid md v := by
  simp only [State.placedGrid, h.config, h.text]

theorem sameInputs.chosenMask : s₁.chosenMask md v = s₂.chosenMask md v := by
  simp only [State.chosenMask, h.config, h.placedGrid]

theorem sameInputs.symbolGrid : s₁.symbolGrid md v = s₂.symbolGrid md v := by
  simp only [State.symbolGrid, h.config, h.placedGrid, h.chosenMask]

/-- The registers of a search agree too. -/
theorem sameInputs.encodeRegs_search (h8 : s₁.config.mreq.toNat = 8) :
    (s₁.encodeRegs md v).result = (s₂.encodeRegs md v).result ∧
    (s₁.encodeRegs md v).pen = (s₂.encodeRegs md v).pen ∧
    (s₁.encodeRegs md v).score = (s₂.encodeRegs md v).score := by
  obtain ⟨hr₁, hp₁, hs₁⟩ := State.encodeRegs_search (md := md) (v := v) h8
  obtain ⟨hr₂, hp₂, hs₂⟩ := State.encodeRegs_search (md := md) (v := v) (h.config ▸ h8)
  rw [hr₁, hp₁, hs₁, hr₂, hp₂, hs₂, h.placedGrid]
  exact ⟨rfl, rfl, rfl⟩

end

/-- What a successful ENCODE leaves is a function of these inputs (R284). -/
theorem sameInputs.encodedTo {s₁ s₂ t₁ t₂ : State} (h : sameInputs s₁ s₂) {md : Mode} {v : Nat}
    (h₁ : s₁.encodedTo md v t₁) (h₂ : s₂.encodedTo md v t₂) :
    t₁.resolved = t₂.resolved ∧ t₁.bitLen = t₂.bitLen ∧ t₁.format = t₂.format ∧ t₁.verWord = t₂.verWord ∧
    (s₁.config.mreq.toNat = 8 → t₁.result = t₂.result ∧ t₁.pen = t₂.pen ∧ t₁.score = t₂.score) := by
  rw [h₁.eq, h₂.eq, h.len, h.chosenMask, h.config]
  exact ⟨rfl, rfl, rfl, rfl, fun h8 => h.encodeRegs_search md v (h.config ▸ h8)⟩

/-- The symbol as a host reads it (R282). -/
theorem State.encodedTo.encodeResult {s t : State} {md : Mode} {v : Nat} (h : s.encodedTo md v t)
    (hs : s.settles md v) : t.encodeResult =
      ⟨gridSide v, (s.symbolGrid md v).flatten, v, s.chosenMask md v, s.config.ecl⟩ := by
  obtain ⟨hver, -⟩ := h.atVersion hs
  rw [State.encodeResult, h.sizeReg hs, ← State.flatten_readGrid, h.bytes.grid, hver, h.resolved, State.level, h.eq]

/-- The codewords and MASKMAP as a host reads them, by the sizes of NDATA, NTOTAL and SIZE (R33, R34). -/
theorem State.encodedTo.runs {s t : State} {md : Mode} {v : Nat} (h : s.encodedTo md v t) (hs : s.settles md v) :
    t.readBytes 0x1400 (t.tableReg ndata) = dataCw s.text md v s.config.ecl ∧
    t.readBytes 0x1600 (t.tableReg ntotal) = finalCw (dataCw s.text md v s.config.ecl) v s.config.ecl ∧
    t.readBytes 0x3000 (t.sizeReg * t.sizeReg) = (encodeMap v).flatten := by
  have hconfig : t.config = s.config := by rw [h.eq]
  have htable := State.tableReg_of_version (State.resolvedVersion_eq_some.2 (h.atVersion hs))
  rw [htable, htable, hconfig, h.sizeReg hs, ← h.bytes.map, State.flatten_readGrid]
  exact ⟨h.bytes.data, h.bytes.final, rfl⟩

end Sys2Proof.Machine
end

namespace Sys2Proof.Proofs

open Sys2Proof.Machine

/-- Settles O59: the registers and runs of bytes that ENCODE leaves are functions of these inputs. -/
theorem encodeDependsOnTextAndConfigOnly : Obligations.EncodeDependsOnTextAndConfigOnly := by
  intro s₁ s₂ t₁ hconfig hlen htext _ herr hexec ht
  have h : sameInputs s₁ s₂ := ⟨hconfig, hlen, htext⟩
  obtain ⟨md, v, hs₁, hmreq, h₁⟩ := execEncode_encodedTo hexec ht
  have hs₂ : s₂.settles md v := State.settles_of_choice (hconfig ▸ hs₁.vreq_le) (h.chooseModeVersion ▸ hs₁.choice)
  obtain ⟨t₂, ht₂, h₂⟩ := execEncode_commits hs₂ (hconfig ▸ hmreq)
  obtain ⟨hdata₁, hfinal₁, hmap₁⟩ := h₁.runs hs₁
  obtain ⟨hdata₂, hfinal₂, hmap₂⟩ := h₂.runs hs₂
  obtain ⟨hresolved, hbitLen, hformat, hverWord, hsearch⟩ := h.encodedTo h₁ h₂
  refine ⟨t₂, ht₂, by rw [h₂.eq]; exact herr, hresolved, hbitLen, hformat, hverWord, hsearch, ?_, ?_, ?_, ?_⟩
  · rw [h₁.encodeResult hs₁, h₂.encodeResult hs₂, h.symbolGrid, h.chosenMask, hconfig]
  · rw [hdata₁, hdata₂, htext, hconfig]
  · rw [hfinal₁, hfinal₂, htext, hconfig]
  · rw [hmap₁, hmap₂]

end Sys2Proof.Proofs

section
/-! PROOFS. The search, the metadata and the frame of a successful ENCODE as Safety.lean writes them
(46_pipeline.md R281). -/

namespace Sys2Proof.Machine

section
variable {s t : State} {md : Mode} {v : Nat} (h : s.encodedTo md v t) (hs : s.settles md v)
include h

theorem State.encodedTo.maskFixed (hmreq : s.config.mreq.toNat ≤ 7) :
    t.resolved.mask.toNat = s.config.mreq.toNat ∧ t.result = s.result ∧ t.pen = s.pen ∧ t.score = s.score := by
  obtain ⟨hresult, hpen, hscore⟩ := State.encodeRegs_fixed (md := md) (v := v) hmreq
  rw [h.eq, State.chosenMask, encodeMask_fixed hmreq, hresult, hpen, hscore]
  exact ⟨toNat_ofNat_of_lt (by omega), rfl, rfl, rfl⟩

include hs in
/-- The registers of the search are those of a state that holds the placed grid and its map (R242). -/
theorem State.encodedTo.searched (h8 : s.config.mreq.toNat = 8) :
    t.searched (gridSide v) (maskedAt (s.placedGrid md v) (encodeMap v)) := by
  have hg := s.placedGrid_square md v
  have hmk := encodeMap_square v
  have hle := hs.le_ten
  have hn : gridSide v ≤ 57 := by unfold gridSide; omega
  obtain ⟨-, -, hgrid, hmap, -⟩ := (holdsSymbol_encodeStream hle hs.fits).writeGrids hle hg hmk
  generalize (State.writeGrid _ .maskMap _) = u at hgrid hmap
  have hsearch := searched_recordSearch u hn
  obtain ⟨hresult, hpen, hscore⟩ := State.encodeRegs_search (md := md) (v := v) h8
  rw [h.eq, State.chosenMask, encodeMask_search h8, hresult, hpen, hscore]
  rw [hgrid, hmap, State.recordSearch_eq] at hsearch
  refine State.searched_congr (fun m => ?_) hsearch
  rw [← maskGrid_readGrid, hgrid, hmap, maskGrid_eq_ofCells hg hmk]

theorem State.encodedTo.format : t.format.toNat = formatEntry s.config.ecl t.resolved.mask := by
  rw [h.eq, formatWord_eq]
  exact toNat_ofNat_of_lt (formatEntry_lt _ _)

include hs in
theorem State.encodedTo.verWord : t.verWord.toNat = versionEntry v := by
  have hle := hs.le_ten
  rw [h.eq, versionRegWord_eq v (by omega)]
  exact toNat_ofNat_of_lt (versionEntry_lt v (by omega))

include hs in
/-- The metadata cells hold the bits of FORMAT and VERWORD. -/
theorem State.encodedTo.formatCell {p : (Nat × Nat) × Nat} (hp : p ∈ formatCells (gridSide v)) :
    t.gridCell (gridSide v) p.1.1 p.1.2 = if t.format.toNat.testBit p.2 then 1 else 0 := by
  obtain ⟨hr, hc⟩ := formatCells_inside (by unfold gridSide; omega) hp
  rw [h.gridCell hr hc, State.symbolGrid, at_finishGrid_format (s.placedGrid_square md v) (encodeMap_square v)
    hs.one_le hs.le_ten _ _ hp, h.format, ← formatWord_eq, h.resolved]
  rfl

include hs in
theorem State.encodedTo.versionCell {p : (Nat × Nat) × Nat} (hp : p ∈ versionCellsOf v) :
    t.gridCell (gridSide v) p.1.1 p.1.2 = if t.verWord.toNat.testBit p.2 then 1 else 0 := by
  have hle := hs.le_ten
  obtain ⟨hr, hc⟩ := versionCellsOf_inside hp
  rw [h.gridCell hr hc, State.symbolGrid, at_finishGrid_version (s.placedGrid_square md v) (encodeMap_square v)
    hs.one_le hle _ _ hp, h.verWord hs, ← versionRegWord_eq v (by omega)]
  rfl

/-- Every other cell is the placed grid's, masked. -/
theorem State.encodedTo.otherCell {r c : Nat} (hr : r < gridSide v) (hc : c < gridSide v)
    (hformat : ∀ i, i < 15 → (r, c) ≠ faCell i ∧ (r, c) ≠ fbCell (gridSide v) i)
    (hversion : 7 ≤ v → ∀ i, i < 18 →
      (r, c) ≠ versionCellRight (gridSide v) i ∧ (r, c) ≠ versionCellLeft (gridSide v) i) :
    t.gridCell (gridSide v) r c = maskedAt (s.placedGrid md v) (encodeMap v) t.resolved.mask r c := by
  rw [h.gridCell hr hc, h.resolved]
  refine at_finishGrid_other (s.placedGrid_square md v) (encodeMap_square v) _ _ hr hc (fun hmem => ?_) fun hmem => ?_
  · obtain ⟨p, hp, hcell⟩ := List.mem_map.1 hmem
    obtain ⟨i, hi, rfl | rfl⟩ := (mem_formatCells_iff (by unfold gridSide; omega)).1 hp
    · exact (hformat i hi).1 hcell.symm
    · exact (hformat i hi).2 hcell.symm
  · obtain ⟨p, hp, hcell⟩ := List.mem_map.1 hmem
    rcases Nat.lt_or_ge v 7 with hlow | hhigh
    · rw [versionCellsOf_low (by omega)] at hp
      cases hp
    · rw [versionCellsOf_high hhigh] at hp
      obtain ⟨i, hi, rfl | rfl⟩ := mem_versionCells_iff.1 hp
      · exact (hversion hhigh i hi).1 hcell.symm
      · exact (hversion hhigh i hi).2 hcell.symm

end

end Sys2Proof.Machine
end

namespace Sys2Proof.Proofs

open Sys2Proof.Machine

/-- Settles O57: each clause is one outcome of the checks, in their order; the last says what the symbol holds. -/
theorem encodeChecksThenCommits : Obligations.EncodeChecksThenCommits := by
  intro s
  refine ⟨execEncode_badConfig, fun hreq hmreq => ⟨fun hlen => ?_, fun md hlen hmd => ?_⟩⟩
  · rcases s.chooseModeVersion_cases with ⟨-, he⟩ | ⟨md, -, hle, -⟩
    · exact execEncode_error hreq hmreq he
    · exact absurd hle (Nat.not_le.2 hlen)
  · rcases s.chooseModeVersion_cases with ⟨hlt, -⟩ | ⟨md', rfl, -, hcases⟩
    · exact absurd hlen (Nat.not_le.2 hlt)
    rw [requestedMode_of_attempted hmd] at hcases
    rcases hcases with ⟨hel, he⟩ | ⟨hel, hnone, he⟩ | ⟨v, hel, hsome, hok⟩
    · have hno := (eligible_eq_false_iff _ _).1 hel
      exact ⟨fun _ => execEncode_error hreq hmreq he, fun hyes => absurd hyes hno, fun _ hyes => absurd hyes hno⟩
    · refine ⟨fun hno => absurd ((eligible_iff _ _).1 hel) hno, fun _ _ => execEncode_error hreq hmreq he,
        fun v _ hv => ?_⟩
      cases hnone.symm.trans ((chooseVersion_iff hreq).2 hv)
    · refine ⟨fun hno => absurd ((eligible_iff _ _).1 hel) hno,
        fun _ hnone => absurd ((chooseVersion_iff hreq).1 hsome) (hnone v), fun u _ hu => ?_⟩
      cases hsome.symm.trans ((chooseVersion_iff hreq).2 hu)
      have hs := State.settles_of_choice hreq hok
      have hn : 15 ≤ gridSide v := by unfold gridSide; omega
      obtain ⟨t, ht, h⟩ := execEncode_commits hs hmreq
      refine ⟨t, ht, by rw [h.eq]; exact ⟨rfl, rfl⟩, by rw [h.eq], (h.atVersion hs).1, by rw [h.resolved],
        by rw [h.eq]; exact bitLen_toNat hs.le_ten hlen, h.bytes.data, h.bytes.final, h.maskFixed, h.searched hs,
        h.format, h.verWord hs, fun r c hr hc => ⟨h.mapCell hr hc, h.otherCell hr hc⟩, fun i hi => ⟨?_, ?_⟩,
        fun hhigh i hi => ⟨?_, ?_⟩, h.bytes.frame⟩
      · exact h.formatCell hs ((mem_formatCells_iff hn).2 ⟨i, hi, .inl rfl⟩)
      · exact h.formatCell hs ((mem_formatCells_iff hn).2 ⟨i, hi, .inr rfl⟩)
      · exact h.versionCell hs (p := (versionCellRight _ i, i))
          (versionCellsOf_high hhigh ▸ mem_versionCells_iff.2 ⟨i, hi, .inl rfl⟩)
      · exact h.versionCell hs (p := (versionCellLeft _ i, i))
          (versionCellsOf_high hhigh ▸ mem_versionCells_iff.2 ⟨i, hi, .inr rfl⟩)

end Sys2Proof.Proofs

section
/-! PROOFS. ENCODE and its stages (46_pipeline.md R283): the stages' commands, issued one after the other, leave the
registers and the symbol that ENCODE leaves. -/

namespace Sys2Proof.Machine

/-! ### Running commands in turn -/

theorem execAll_cons {i : Instr} {is : List Instr} {s t : State} (h : exec i s = .next t) :
    execAll (i :: is) s = execAll is t := by
  rw [execAll, h]

/-- The next command runs from the state a completed one left. -/
theorem execAll_complete {i : Instr} {is : List Instr} {s t : State} {o : Host.Outcome State Fault Refusal}
    (h : exec i s = complete t) (hrest : execAll is t.completed = o) : execAll (i :: is) s = o :=
  (execAll_cons h).trans hrest

theorem execAll_append {is js : List Instr} {s t : State} (h : execAll is s = .next t) :
    execAll (is ++ js) s = execAll js t := by
  induction is generalizing s with
  | nil => cases h; rfl
  | cons i is ih =>
    rw [execAll] at h
    rw [List.cons_append, execAll]
    cases hi : exec i s with
    | next u => rw [hi] at h; exact ih h
    | fault f => cases f
    | refused r => rw [hi] at h; cases h

/-! ### Steps 1 to 5 (R280) -/

theorem State.packChecks_none {s : State} {md : Mode} {v : Nat} (hlen : s.len ≤ 1024) (hel : eligible md s.text = true)
    (hfit : fits s.level md s.len v = true) : s.packChecks v md = none := by
  rcases s.packChecks_cases v md with ⟨hgt, -⟩ | ⟨-, hno, -⟩ | ⟨-, -, hno, -⟩ | ⟨-, -, -, h⟩
  · exact absurd hlen (Nat.not_le.2 hgt)
  · exact absurd (hno.symm.trans hel) (by decide)
  · exact absurd (hno.symm.trans hfit) (by decide)
  · exact h

section
variable {s : State} {md : Mode} {v : Nat} (hs : s.settles md v)
include hs

/-- ECENC reads back the data codewords that PACK stored. -/
theorem encodeStream_readsBack : s.encodeStream md v =
    (((s.setVersionMode v md).setBitLen (BitVec.ofNat 16 (streamBits v md s.len))).writeBytes 0x1400
      (dataCw s.text md v s.level)).writeBytes 0x1600
        (finalCw ((s.writeBytes 0x1400 (dataCw s.text md v s.level)).readBytes 0x1400 (ndata v s.level)) v s.level) := by
  have hd : (dataCw s.text md v s.level).length = ndata v s.level :=
    dataCw_length (by rw [s.text_length]; exact hs.fits)
  rw [← hd, s.readBytes_writeBytes]
  rfl

/-- SELECT, PACK and ECENC leave what ENCODE's first three steps do. -/
theorem execAll_stream : execAll [.select, .pack, .ecenc] s = complete (s.encodeStream md v) := by
  refine execAll_complete (execSelect_ok hs.vreq_le hs.choice) ?_
  refine execAll_complete (execPack_ok (State.resolvedVersion_eq_some.2 (hs.atVersion rfl)) rfl
    (State.packChecks_none hs.len_le hs.eligible hs.fits)) ?_
  refine execAll_complete (withVersion_some (hs.atVersion rfl) _) ?_
  rw [encodeStream_readsBack hs]
  rfl

end

/-! ### Registers kept from stage to stage -/

theorem ranTo.config {r t : State} (h : ranTo r t) : t.config = r.config := by
  obtain ⟨m, rfl⟩ := h
  rfl

theorem ranTo.resolved {r t : State} (h : ranTo r t) : t.resolved = r.resolved := by
  obtain ⟨m, rfl⟩ := h
  rfl

theorem ranTo.phase {r t : State} (h : ranTo r t) : t.phase = .idle := by
  obtain ⟨m, rfl⟩ := h
  rfl

/-- An update of other registers than those of completion can be made before the earlier commands as well. -/
theorem ranTo.update {r q t : State} {F : State → State} (h : ranTo r q) (ht : ranTo (F q) t)
    (hF : ∀ x m, F ({ x with mem := m } : State).completed = ({ F x with mem := m } : State).completed) :
    ranTo (F r) t := by
  obtain ⟨m, rfl⟩ := h
  obtain ⟨m', rfl⟩ := ht
  exact ⟨m', by rw [hF]; rfl⟩

theorem ranTo.trans {r q t : State} (h : ranTo r q) (ht : ranTo q t) : ranTo r t :=
  h.update (F := id) ht fun _ _ => rfl

/-! ### What each later stage leaves -/

/-- The outcome is a completion with the registers of r and the grids g and mk beside the codewords of s. -/
def leavesSymbol (s : State) (md : Mode) (v : Nat) (o : Host.Outcome State Fault Refusal) (r : State) (g mk : Grid) :
    Prop := ∃ q, o = .next q ∧ ranTo r q ∧ holdsSymbol s md v q g mk

section
variable {s u : State} {md : Mode} {v : Nat} {g mk g' mk' : Grid}

theorem complete_writeGrids_leaves (hv : v ≤ 10) (h : holdsSymbol s md v u g mk) (hg : g'.square (gridSide v))
    (hmk : mk'.square (gridSide v)) :
    leavesSymbol s md v (complete ((u.writeGrid .grid g').writeGrid .maskMap mk')) u g' mk' :=
  ⟨_, complete_eq _, ⟨_, rfl⟩, (h.writeGrids hv hg hmk).of_sameBytes fun _ => rfl⟩

theorem complete_writeGrid_leaves (hv : v ≤ 10) (h : holdsSymbol s md v u g mk) (hg : g'.square (gridSide v)) :
    leavesSymbol s md v (complete (u.writeGrid .grid g')) u g' mk :=
  ⟨_, complete_eq _, ⟨_, rfl⟩, (h.writeGrid hv hg).of_sameBytes fun _ => rfl⟩

section
variable (hat : u.atVersion v) (hecl : u.config.ecl = s.config.ecl)
include hat

theorem exec_buildstruct_leaves (h : holdsSymbol s md v u g mk) :
    leavesSymbol s md v (exec .buildstruct u) u (buildGrid v) (filled (gridSide v) 0) := by
  rw [show exec .buildstruct u = _ from withVersion_some hat _]
  exact complete_writeGrids_leaves hat.2.2 h (buildGrid_square v) (Grid.square_filled _ 0)

include hecl in
/-- The structural grid passes the checks of PLACEDATA (R214). -/
theorem exec_placedata_leaves (h : holdsSymbol s md v u (buildGrid v) mk) :
    leavesSymbol s md v (exec .placedata u) u (s.placedGrid md v) (encodeMap v) := by
  obtain ⟨-, hv, hv'⟩ := id hat
  rw [execPlacedata_places hat (by rw [h.grid]; exact placeable_buildGrid hv hv' _), h.grid, hecl, h.final]
  exact complete_writeGrids_leaves hv' h (s.placedGrid_square md v) (encodeMap_square v)

/-- The placed grid passes the check of SELECTMASK (R242). -/
theorem exec_selectmask_leaves (h : holdsSymbol s md v u (s.placedGrid md v) (encodeMap v)) :
    leavesSymbol s md v (exec .selectmask u) (u.recordSearch (s.placedGrid md v) (encodeMap v) (gridSide v))
      (maskGrid (s.placedGrid md v) (encodeMap v) (searchMask (s.placedGrid md v) (encodeMap v) (gridSide v)))
      (encodeMap v) := by
  obtain ⟨-, hv, hv'⟩ := id hat
  have hok : (u.readGrid .grid (gridSide v)).allCells isBinary = true := by
    refine (Grid.allCells_iff (u.readGrid_square .grid _) _).2 fun r c hr hc => ?_
    rw [h.grid, isBinary_iff]
    exact at_encodeGrid_le_one hv hv' _ _ _ hr hc
  have hexec : exec .selectmask u = _ := (withVersion_some hat _).trans (if_pos hok)
  rw [hexec, h.grid, h.map]
  exact complete_writeGrid_leaves hv' (h.of_sameBytes (State.readByte_congr (by simp) (by rw [State.recordSearch_eq])))
    (maskGrid_square (s.placedGrid_square md v) (encodeMap_square v) _)

/-- It passes that of APPLYMASK (R240) too. -/
theorem exec_applymask_leaves (h : holdsSymbol s md v u (s.placedGrid md v) (encodeMap v)) (m : BitVec 3) :
    leavesSymbol s md v (exec (.applymask m) u) u (maskGrid (s.placedGrid md v) (encodeMap v) m) (encodeMap v) := by
  obtain ⟨-, hv, hv'⟩ := id hat
  have hok : maskableBinary (u.readGrid .grid (gridSide v)) (u.readGrid .maskMap (gridSide v)) = true := by
    refine (maskableBinary_readGrid u _).2 fun r c hr hc _ => ?_
    rw [u.gridCell_eq hr hc, h.grid]
    exact at_encodeGrid_le_one hv hv' _ _ _ hr hc
  have hexec : exec (.applymask m) u = _ := (withVersion_some hat _).trans (if_pos hok)
  rw [hexec, h.grid, h.map]
  exact complete_writeGrid_leaves hv' h (maskGrid_square (s.placedGrid_square md v) (encodeMap_square v) _)

theorem exec_writefmt_leaves (h : holdsSymbol s md v u g mk) : leavesSymbol s md v (exec .writefmt u)
    (u.setFormat (BitVec.ofNat 15 (formatWord u.config.ecl u.resolved.mask)))
    (putBits g (formatCells (gridSide v)) (formatWord u.config.ecl u.resolved.mask)) mk := by
  obtain ⟨t, ht, ⟨hphase, hstatus⟩, honly, hformat, hbytes⟩ := complete_writeCells_setFormat u
    (bitWrites (gridSide v) (formatCells (gridSide v)) (formatWord u.config.ecl u.resolved.mask))
    (BitVec.ofNat 15 (formatWord u.config.ecl u.resolved.mask))
  rw [hphase, hstatus, hformat] at honly
  have hin : 15 ≤ gridSide v := by unfold gridSide; omega
  exact ⟨t, (withVersion_some hat _).trans ht, ⟨t.mem, honly⟩,
    (h.bitWrites hat.2.2 (fun _ => formatCells_inside hin) _).of_sameBytes hbytes⟩

theorem exec_writever_leaves (h : holdsSymbol s md v u g mk) : leavesSymbol s md v (exec .writever u)
    (u.setVerWord (BitVec.ofNat 18 (versionRegWord v)))
    (putBits g (versionCellsOf v) (versionRegWord v)) mk := by
  obtain ⟨t, ht, ⟨hphase, hstatus⟩, honly, hverWord, hbytes⟩ := complete_writeCells_setVerWord u
    (bitWrites (gridSide v) (versionCellsOf v) (versionRegWord v)) (BitVec.ofNat 18 (versionRegWord v))
  rw [hphase, hstatus, hverWord] at honly
  exact ⟨t, (withVersion_some hat _).trans ht, ⟨t.mem, honly⟩,
    (h.bitWrites hat.2.2 (fun _ => versionCellsOf_inside) _).of_sameBytes hbytes⟩

end

end

end Sys2Proof.Machine
end

section
/-! PROOFS. The stages' commands in turn (46_pipeline.md R283): steps 1 to 5, either form of step 6, the metadata; then
two ends of ENCODE's writes are compared. -/

namespace Sys2Proof.Machine

section
variable {s : State} {md : Mode} {v : Nat} (hs : s.settles md v)
include hs

theorem atVersion_of_ranTo {u : State} (h : ranTo (s.encodeStream md v) u) : u.atVersion v :=
  hs.atVersion (by rw [h.resolved]; rfl)

/-- Steps 1 to 5 (R280): the codewords, then the placed grid and its map. -/
theorem execAll_placed : leavesSymbol s md v (execAll [.select, .pack, .ecenc, .buildstruct, .placedata] s)
    (s.encodeStream md v) (s.placedGrid md v) (encodeMap v) := by
  have hstream : ranTo (s.encodeStream md v) (s.encodeStream md v).completed := ⟨_, rfl⟩
  have hbytes := (holdsSymbol_encodeStream hs.le_ten hs.fits).of_sameBytes (u := (s.encodeStream md v).completed)
    fun _ => rfl
  obtain ⟨b, hbuild, hb, hbytes⟩ := exec_buildstruct_leaves (atVersion_of_ranTo hs hstream) hbytes
  have hb := hstream.trans hb
  obtain ⟨p, hplace, hp, hbytes⟩ := exec_placedata_leaves (atVersion_of_ranTo hs hb) (by rw [hb.config]; rfl) hbytes
  refine ⟨p, ?_, hb.trans hp, hbytes⟩
  exact (execAll_append (execAll_stream hs)).trans ((execAll_cons hbuild).trans (execAll_cons hplace))

/-- The metadata commands on a state that holds the masked grid, after either form of step 6. -/
theorem execAll_metadata {q : State}
    (hq : ranTo ((s.encodeStream md v).encodeSelect (s.placedGrid md v) (encodeMap v) (gridSide v)) q)
    (hbytes : holdsSymbol s md v q (maskGrid (s.placedGrid md v) (encodeMap v) (s.chosenMask md v)) (encodeMap v)) :
    ∃ u, execAll [.writefmt, .writever] q = .next u ∧ s.encodedTo md v u := by
  have hresolved : q.resolved = ⟨BitVec.ofNat 4 v, md.code, s.chosenMask md v⟩ := by
    rw [hq.resolved, State.encodeSelect_eq]
    rfl
  have hecl : q.config.ecl = s.config.ecl := by
    rw [hq.config, State.encodeSelect_eq]
    rfl
  have hat {x : State} (h : x.resolved = q.resolved) : x.atVersion v := hs.atVersion (by rw [h, hresolved])
  obtain ⟨f, hfmt, hf, hbytes⟩ := exec_writefmt_leaves (hat rfl) hbytes
  rw [hecl, hresolved] at hf hbytes
  obtain ⟨u, hver, hu, hbytes⟩ := exec_writever_leaves (hat hf.resolved) hbytes
  refine ⟨u, (execAll_cons hfmt).trans (execAll_cons hver), ?_, hbytes⟩
  exact (hq.update (F := (·.setFormat _)) hf fun _ _ => rfl).update (F := (·.setVerWord _)) hu fun _ _ => rfl

/-- The stages with a mask search end where ENCODE does. -/
theorem execAll_searching (h8 : s.config.mreq.toNat = 8) :
    ∃ u, execAll [.select, .pack, .ecenc, .buildstruct, .placedata, .selectmask, .writefmt, .writever] s = .next u ∧
      s.encodedTo md v u := by
  obtain ⟨p, hplaced, hp, hbytes⟩ := execAll_placed hs
  obtain ⟨q, hselect, hq, hbytes⟩ := exec_selectmask_leaves (atVersion_of_ranTo hs hp) hbytes
  have hregs : ranTo ((s.encodeStream md v).encodeSelect (s.placedGrid md v) (encodeMap v) (gridSide v)) q := by
    rw [State.encodeSelect_search (s := s.encodeStream md v) h8]
    exact hp.update (F := (·.recordSearch _ _ _)) hq fun x m => by simp only [State.recordSearch_eq]; rfl
  rw [← encodeMask_search h8] at hbytes
  obtain ⟨u, hmeta, hu⟩ := execAll_metadata hs hregs hbytes
  exact ⟨u, (execAll_append hplaced).trans ((execAll_cons hselect).trans hmeta), hu⟩

/-- The stages with a fixed mask, set in RESOLVED by the host before the metadata commands, end where ENCODE does. -/
theorem execAll_fixed (h7 : s.config.mreq.toNat ≤ 7) : ∃ q u,
    execAll [.select, .pack, .ecenc, .buildstruct, .placedata, .applymask (BitVec.ofNat 3 s.config.mreq.toNat)] s =
      .next q ∧ q.phase = .idle ∧
    execAll [.writefmt, .writever] (q.setMask (BitVec.ofNat 3 s.config.mreq.toNat)) = .next u ∧
      s.encodedTo md v u := by
  obtain ⟨p, hplaced, hp, hbytes⟩ := execAll_placed hs
  obtain ⟨q, hmask, hq, hbytes⟩ := exec_applymask_leaves (atVersion_of_ranTo hs hp) hbytes
    (BitVec.ofNat 3 s.config.mreq.toNat)
  have hregs : ranTo ((s.encodeStream md v).encodeSelect (s.placedGrid md v) (encodeMap v) (gridSide v))
      (q.setMask (BitVec.ofNat 3 s.config.mreq.toNat)) := by
    rw [State.encodeSelect_fixed (s := s.encodeStream md v) h7]
    obtain ⟨m, rfl⟩ := hp.trans hq
    exact ⟨m, rfl⟩
  rw [← encodeMask_fixed h7] at hbytes
  obtain ⟨u, hmeta, hu⟩ := execAll_metadata hs hregs (hbytes.of_sameBytes fun _ => rfl)
  exact ⟨q, u, (execAll_append hplaced).trans (execAll_cons hmask), (hp.trans hq).phase, hmeta, hu⟩

end

/-- Two ends of ENCODE's writes have the same registers and the same bytes. -/
theorem State.encodedTo.unique {s t u : State} {md : Mode} {v : Nat} (ht : s.encodedTo md v t)
    (hu : s.encodedTo md v u) : { u with mem := t.mem } = t ∧ sameBytes t u := by
  refine ⟨?_, ht.bytes.sameBytes hu.bytes⟩
  obtain ⟨m, hm⟩ := ht.regs
  obtain ⟨m', rfl⟩ := hu.regs
  rw [hm]
  rfl

/-! ### SETRES (R108) -/

theorem ResolvedReg.ofWord_word (r : ResolvedReg) : ResolvedReg.ofWord r.word = r := by
  have hfields : ∀ (ver : BitVec 4) (mode : BitVec 2) (mask : BitVec 3),
      ResolvedReg.ofWord (ResolvedReg.word ⟨ver, mode, mask⟩) = ⟨ver, mode, mask⟩ := by decide +kernel
  exact hfields r.ver r.mode r.mask

/-- A write of RESOLVED while IDLE stores the fields of the word (R72). -/
theorem hostWrite_resolved {s : State} (h : s.phase = .idle) (r : ResolvedReg) :
    hostWrite 0x018 .word r.word s = s.setResolved r := by
  have hw : writable 0x018 .word = some (.reg .resolved) := by decide
  rw [hostWrite, hw]
  simp [h, Phase.isBusy, writeTarget, writeReg, ResolvedReg.ofWord_word]

end Sys2Proof.Machine
end

namespace Sys2Proof.Proofs

open Sys2Proof.Machine

/-- Settles O58: in either form of step 6 the stages end with the registers and bytes of ENCODE. -/
theorem encodeEqualsItsStages : Obligations.EncodeEqualsItsStages := by
  intro s t _ hexec ht
  obtain ⟨md, v, hs, -, henc⟩ := execEncode_encodedTo hexec ht
  refine ⟨fun h8 => ?_, fun h7 => ?_⟩
  · obtain ⟨u, hu, hend⟩ := execAll_searching hs h8
    exact ⟨u, hu, henc.unique hend⟩
  · obtain ⟨q, u, hq, hidle, hu, hend⟩ := execAll_fixed hs h7
    refine ⟨q, u, hq, ?_, henc.unique hend⟩
    rw [hostWrite_resolved hidle]
    exact hu

end Sys2Proof.Proofs

section
/-! PROOFS. No command writes CONFIG (10_state.md R27), so the end of a command, which sets DONE or ERR, raises IRQ
when IE = 1 (60_exceptions.md R302, R303). -/

namespace Sys2Proof.Machine

/-- `o` is an end of a command run from `s` that leaves CONFIG as it was. -/
def KeepsConfig (s : State) (o : Host.Outcome State Fault Refusal) : Prop :=
  ∀ t, o = .next t → t.config = s.config

variable {s u : State}

theorem KeepsConfig.raise {e : CmdError} : KeepsConfig s (raise e s) := fun _ h => by rw [raise_next h]

theorem KeepsConfig.complete (hu : u.config = s.config) : KeepsConfig s (complete u) :=
  fun _ h => by rw [complete_next h]; exact hu

theorem KeepsConfig.ite {p : Prop} [Decidable p] {a b : Host.Outcome State Fault Refusal}
    (ha : KeepsConfig s a) (hb : KeepsConfig s b) : KeepsConfig s (if p then a else b) := by
  split
  · exact ha
  · exact hb

theorem KeepsConfig.withVersion {k : Nat → Host.Outcome State Fault Refusal}
    (h : ∀ v, KeepsConfig s (k v)) : KeepsConfig s (withVersion s k) := by
  rcases withVersion_eq s k with ⟨v, -, hk⟩ | ⟨-, hk⟩ <;> rw [hk]
  · exact h v
  · exact .raise

/-! ### Each command -/

@[simp] theorem State.recordSearch_config (s : State) (g mk : Grid) (n : Nat) :
    (s.recordSearch g mk n).config = s.config := by simp [State.recordSearch]

@[simp] theorem State.encodeSelect_config (s : State) (g mk : Grid) (n : Nat) :
    (s.encodeSelect g mk n).config = s.config := by
  unfold State.encodeSelect
  split <;> simp

theorem State.encodeAs_config (s : State) (md : Mode) (v : Nat) : (s.encodeAs md v).config = s.config := by
  simp [State.encodeAs, State.encodeStream]

theorem execSelect_keepsConfig (s : State) : KeepsConfig s (execSelect s) := by
  refine .ite .raise ?_
  split
  · exact .raise
  · exact .complete rfl

theorem execPack_keepsConfig (s : State) : KeepsConfig s (execPack s) := by
  refine .withVersion fun v => ?_
  split
  · exact .raise
  · split
    · exact .raise
    · exact .complete rfl

theorem execEncode_keepsConfig (s : State) : KeepsConfig s (execEncode s) := by
  refine .ite .raise ?_
  split
  · exact .raise
  · exact .complete (s.encodeAs_config _ _)

theorem exec_keepsConfig (i : Instr) (s : State) : KeepsConfig s (exec i s) := by
  cases i with
  | nop => exact .complete rfl
  | gfmul a b => exact .complete rfl
  | gfpow a e => exact .complete rfl
  | gfexp k => exact .complete rfl
  | gflog a => exact .ite .raise (.complete rfl)
  | select => exact execSelect_keepsConfig s
  | pack => exact execPack_keepsConfig s
  | rsgen ec => exact .ite (.complete rfl) .raise
  | rsenc len ec => exact .ite (.complete rfl) .raise
  | ecenc => exact .withVersion fun _ => .complete rfl
  | buildstruct => exact .withVersion fun _ => .complete rfl
  | placedata => exact .withVersion fun _ => .ite (.complete rfl) .raise
  | applymask m => exact .withVersion fun _ => .ite (.complete rfl) .raise
  | score => exact .withVersion fun _ => .ite (.complete rfl) .raise
  | selectmask => exact .withVersion fun _ => .ite (.complete (by simp)) .raise
  | fmtbits l m => exact .complete rfl
  | verbits v => exact .complete rfl
  | writefmt => exact .withVersion fun _ => .complete (by simp)
  | writever => exact .withVersion fun _ => .complete (by simp)
  | encode => exact execEncode_keepsConfig s

/-! ### The end of a command -/

variable {o : Host.Outcome State Fault Refusal}

/-- A command ends with a next state, completed or failed (R302, R303). -/
theorem CommandEnds.next (h : CommandEnds s o) : ∃ t, o = .next t ∧
    (s.completedTo t ∨ ∃ e : CmdError, e.sound ∧ t = s.failed e) := by
  rcases h with ⟨e, he, rfl⟩ | ⟨u, hu, -, rfl⟩
  · exact ⟨_, raise_eq e s, .inr ⟨e, he, rfl⟩⟩
  · exact ⟨_, complete_eq u, .inl ⟨rfl, by rw [hu]⟩⟩

/-- DONE is set when a command completed, ERR when it failed. -/
theorem State.done_or_err_of_ended {t : State}
    (h : s.completedTo t ∨ ∃ e : CmdError, e.sound ∧ t = s.failed e) :
    (t.status.done || t.status.err) = true := by
  rcases h with ⟨-, hst⟩ | ⟨e, -, rfl⟩
  · rw [hst, Bool.true_or]
  · rw [State.failed, StatusReg.record_err, Bool.or_true]

end Sys2Proof.Machine
end

section
/-! PROOFS. A step by the phase it starts in (60_exceptions.md R305), and what a write to CMD does (R301). -/

namespace Sys2Proof.Machine

theorem decode_of_decodeTableWord {nbits w : Nat} {i : Instr} (h : decodeTableWord nbits w = some i) :
    decode (tableWord nbits w) = .ok i := by
  unfold decodeTableWord at h
  split at h
  · cases hd : decode (tableWord nbits w) with
    | error e => simp [hd, Except.toOption] at h
    | ok j => simpa [hd, Except.toOption] using h
  · cases h

variable {s : State}

theorem hostCycle_nil (h : s.hostOps = []) : hostCycle s = s := by simp [hostCycle, h]

theorem hostCycle_cons {op : HostOp} {rest : List HostOp} (h : s.hostOps = op :: rest) :
    hostCycle s = perform op (s.setHostOps rest) := by simp [hostCycle, h]

/-- While BUSY a legal write to anything but STATUS is dropped and recorded as BUSY_WRITE (R305, R352). -/
theorem hostWrite_busy {off : Offset} {w : Width} {t : Target} (v : Word) (ht : writable off w = some t)
    (hne : t ≠ .reg .status) (hb : s.phase.isBusy = true) :
    hostWrite off w v s = { s with status := s.status.record (.plain .busyWrite) } := by
  rcases hostWrite_cases off w v s with ⟨hn, -⟩ | ⟨-, -, -, -, hw⟩ | ⟨t', ht', h, -⟩
  · simp [ht] at hn
  · exact hw
  · cases ht.symm.trans ht'
    simp [hb, hne] at h

theorem writable_cmd : writable 0x00C .word = some (.reg .cmd) := by decide

/-- A write to CMD while PHASE = IDLE issues the command (R72, R301). -/
theorem hostWrite_cmd (w : Word) (h : s.phase = .idle) : hostWrite 0x00C .word w s = issueCommand w s :=
  hostWrite_reg writable_cmd (.inl (Phase.isBusy_of_idle h))

theorem issueCommand_of_err (w : Word) (h : s.status.err = true) :
    issueCommand w s = { s with status := { s.status with multi := true } } := by
  simp [issueCommand, h, State.setStatus]

theorem issueCommand_of_noErr (w : Word) (h : s.status.err = false) :
    issueCommand w s = acceptCommand w s := by
  simp [issueCommand, h]

end Sys2Proof.Machine
end

namespace Sys2Proof.Proofs

open Sys2Proof.Machine

/-- Settles O12: each command ends in one of the two ways and keeps IE; both set DONE or ERR. -/
theorem commandsCompleteOrFailPrecisely : Obligations.CommandsCompleteOrFailPrecisely := by
  refine ⟨fun i s => ?_, fun st e =>
    ⟨fun h => StatusReg.record_first h e, fun h => StatusReg.record_later h e, rfl⟩⟩
  obtain ⟨t, ht, hend⟩ := (exec_ends i s).next
  refine ⟨t, ht, fun hie => ?_, hend⟩
  rw [State.irq, exec_keepsConfig i s t ht, hie, State.done_or_err_of_ended hend, Bool.and_true]

/-- Settles O10: the engine ends the command that is due, and every other cycle is the host's. -/
theorem everyStepAnswersANextState : Obligations.EveryStepAnswersANextState := by
  intro s
  cases hp : s.phase with
  | idle => exact ⟨_, step_idle hp⟩
  | busy left =>
    cases left with
    | zero =>
      obtain ⟨t, ht, -⟩ := (engine_ends s).next
      exact ⟨t, (step_due hp).trans ht⟩
    | succ k => exact ⟨_, step_waiting hp⟩

/-- Settles O8: the engine decodes the command in flight, and `withFetchWord` makes its word that command. -/
theorem stepRunsTheDecodedCommand : Obligations.StepRunsTheDecodedCommand := by
  have hdue : ∀ (s : State) (i : Instr), s.phase = .busy 0 → decode s.cmd = .ok i → step s = exec i s :=
    fun s i hp hi => (step_due hp).trans (engine_legal hi)
  exact ⟨hdue, fun s nbits w i h =>
    hdue _ i (s.withFetchWord_phase nbits w) (decode_of_decodeTableWord h)⟩

/-- Settles O9: the step is the host's cycle, after a cycle of the latency while BUSY. -/
theorem hostActsAtMostOncePerCycle : Obligations.HostActsAtMostOncePerCycle := by
  refine ⟨fun s hp hops => ?_, fun s op rest hp hops => ?_, fun s k hp hops => ?_,
    fun s k op rest hp hops => ?_⟩
  · rw [step_idle hp, hostCycle_nil hops]
  · rw [step_idle hp, hostCycle_cons hops, State.setHostOps]
  · rw [step_waiting hp, hostCycle_nil (s := s.setPhase (.busy k)) hops, State.setPhase]
  · rw [step_waiting hp, hostCycle_cons (s := s.setPhase (.busy k)) hops, State.setHostOps, State.setPhase]

/-- Settles O16: BUSY is checked before ERR, and the engine decodes what was accepted. -/
theorem commandAcceptance : Obligations.CommandAcceptance := by
  refine ⟨fun w s k hp => ?_, fun w s hp herr => ?_, fun w s hp herr => ?_, fun s hp =>
    ⟨fun i hi => ?_, fun e he => ?_⟩⟩
  · exact hostWrite_busy w writable_cmd (by decide) (by rw [hp]; rfl)
  · rw [hostWrite_cmd w hp, issueCommand_of_err w herr]
  · rw [hostWrite_cmd w hp, issueCommand_of_noErr w herr]
    rfl
  · rw [step_due hp, engine_legal hi]
  · rw [step_due hp, engine_illegal he, raise_eq, State.failed]

end Sys2Proof.Proofs

section
/-! PROOFS. The host while PHASE = BUSY (70_reset_and_hazards.md R352), and the phase along a run (R356). -/

namespace Sys2Proof.Machine

variable {s : State}

/-! ### Accesses while BUSY (R352) -/

/-- A register takes a write exactly when R25 gives it another access code than RO (log 9). -/
theorem Reg.readOnly_eq_false_iff (r : Reg) :
    r.readOnly = false ↔ r ∈ [.config, .textLen, .cmd, .status, .resolved] := by
  cases r <;> simp [Reg.readOnly]

/-- Only ID and STATUS read exactly while BUSY. -/
theorem exactWhileBusy_reg {r : Reg} (hid : r ≠ .id) (hst : r ≠ .status) :
    (Target.reg r).exactWhileBusy = false := by
  cases r
  case id => exact absurd rfl hid
  case status => exact absurd rfl hst
  all_goals rfl

/-- While BUSY a legal read of anything but ID and STATUS is a fresh draw, without a side effect. -/
theorem hostRead_busy {off : Offset} {w : Width} {t : Target} (ht : target off w = some t)
    (hx : t.exactWhileBusy = false) (hb : s.phase.isBusy = true) :
    hostRead off w s = { s with reply := some (s.freshRead t), busyDraws := s.busyDraws + 1 } := by
  rcases hostRead_cases off w s with ⟨hn, -⟩ | ⟨t', ht', -, -, hr⟩ | ⟨t', ht', h, -⟩
  · cases ht.symm.trans hn
  · cases ht.symm.trans ht'
    exact hr
  · cases ht.symm.trans ht'
    simp [hb, hx] at h

/-! ### The phase along a run (R356) -/

theorem hostRead_phase (off : Offset) (w : Width) (s : State) : (hostRead off w s).phase = s.phase := by
  rcases hostRead_cases off w s with ⟨-, hr⟩ | ⟨t, -, -, -, hr⟩ | ⟨t, -, -, hr⟩ <;> rw [hr] <;> rfl

/-- While BUSY no write is accepted as a command: it is refused, dropped or acts on STATUS. -/
theorem hostWrite_phase (off : Offset) (w : Width) (v : Word) (hb : s.phase.isBusy = true) :
    (hostWrite off w v s).phase = s.phase := by
  rcases hostWrite_cases off w v s with ⟨-, hw⟩ | ⟨t, -, -, -, hw⟩ | ⟨t, -, hidle | rfl, hw⟩
  · rw [hw]; rfl
  · rw [hw]; rfl
  · cases hb.symm.trans hidle
  · rw [hw]; rfl

theorem pollWait_phase (s : State) : (pollWait s).phase = s.phase := by
  unfold pollWait
  dsimp only
  split <;> rfl

/-- While BUSY the host leaves PHASE alone, or its reset input abandons the command in flight. -/
theorem hostCycle_phase (hb : s.phase.isBusy = true) :
    (hostCycle s).phase = s.phase ∨ (hostCycle s).phase = .idle := by
  rcases hostCycle_cases s with ⟨-, h⟩ | ⟨op, rest, -, h⟩ <;> rw [h]
  · exact .inl rfl
  · cases op with
    | read off w => exact .inl (hostRead_phase off w _)
    | write off w v => exact .inl (hostWrite_phase (s := s.setHostOps rest) off w v hb)
    | wait => exact .inl (pollWait_phase _)
    | idle => exact .inl rfl
    | reset => exact .inr rfl

/-- A command that is due leaves PHASE idle, legal or not (R302, R303). -/
theorem step_due_phase (hp : s.phase = .busy 0) : ∃ t, step s = .next t ∧ t.phase = .idle := by
  obtain ⟨t, ht, ⟨hidle, -⟩ | ⟨e, -, rfl⟩⟩ := (engine_ends s).next
  · exact ⟨t, (step_due hp).trans ht, hidle⟩
  · exact ⟨_, (step_due hp).trans ht, rfl⟩

/-- The first step of a run. -/
theorem run_succ_of_step {M : Host.Core} {s t : M.State} (j : Nat) (h : M.step s = .next t) :
    M.run (j + 1) s = M.run j t := by
  rw [Host.Core.run, h]

end Sys2Proof.Machine
end

section
/-! PROOFS. The reset input (70_reset_and_hazards.md R340, R341). -/

namespace Sys2Proof.Machine

/-- No register reads a field that the reset input leaves to the host. -/
theorem resetInput_readReg (s : State) (r : Reg) : (resetInput s).readReg r = State.reset.readReg r := by
  cases r <;> rfl

/-- Nothing is stored after the reset input, so each byte holds its new BUF_INIT draw. -/
theorem resetInput_readByte (s : State) (off : Nat) :
    (resetInput s).readByte off = Config.bufInit (s.bufEpoch + 1) off := rfl

/-- Where no completion is due, a step is the host's cycle, whatever remains of the latency. -/
theorem step_of_not_due {s : State} (hp : s.phase ≠ .busy 0) : ∃ p, step s = .next (hostCycle (s.setPhase p)) := by
  cases h : s.phase with
  | idle => exact ⟨.idle, by rw [step_idle h, State.setPhase, ← h]⟩
  | busy left =>
    cases left with
    | zero => exact absurd h hp
    | succ k => exact ⟨_, step_waiting h⟩

end Sys2Proof.Machine
end

namespace Sys2Proof.Proofs

open Sys2Proof.Machine

/-- Settles O11, by induction on the cycles left: each passes unless the reset input ends the wait. -/
theorem everyCommandInFlightCompletes : Obligations.EveryCommandInFlightCompletes := by
  intro s k hp
  induction k generalizing s with
  | zero =>
    obtain ⟨t, ht, hidle⟩ := step_due_phase hp
    exact ⟨1, t, le_rfl, run_succ_of_step 0 ht, hidle⟩
  | succ k ih =>
    have hstep := step_waiting hp
    rcases hostCycle_phase (s := s.setPhase (.busy k)) rfl with hbusy | hidle
    · obtain ⟨j, t, hj, ht, hidle⟩ := ih _ hbusy
      exact ⟨j + 1, t, by omega, (run_succ_of_step j hstep).trans ht, hidle⟩
    · exact ⟨1, _, by omega, run_succ_of_step 0 hstep, hidle⟩

/-- Settles O15: legality is checked before the phase, and BUSY before the register. -/
theorem accessesWhileBusy : Obligations.AccessesWhileBusy := by
  intro off w v s k hp
  have hb : s.phase.isBusy = true := by rw [hp]; rfl
  refine ⟨fun ht => hostRead_reg ht (.inr rfl), fun ht => ⟨?_, ?_⟩, fun r ht hid hst => ?_,
    fun a ht => ⟨⟨_, hostRead_busy ht rfl hb⟩, ?_⟩, fun r ht hr => ?_, fun r ht hr => ?_,
    fun hn => ⟨hostRead_illegal s hn, hostWrite_illegal v s (writable_none hn)⟩⟩
  · rw [hostRead_reg ht (.inr rfl), State.readReg, State.statusWord, hb]
  · rw [hostWrite_reg (writable_of_not_readOnly ht rfl) (.inr rfl), writeReg, writeStatus, State.setStatus]
  · exact hostRead_busy ht (exactWhileBusy_reg hid hst) hb
  · exact hostWrite_busy v (writable_of_not_readOnly ht rfl) nofun hb
  · have hst : r ≠ .status := ne_of_mem_of_not_mem hr (by decide)
    have hro : r.readOnly = false := r.readOnly_eq_false_iff.2 (List.Sublist.subset (by decide) hr)
    exact hostWrite_busy v (writable_of_not_readOnly ht hro) (fun h => hst (Target.reg.inj h)) hb
  · have hro : r.readOnly = true := by simpa using mt r.readOnly_eq_false_iff.1 hr
    exact hostWrite_illegal v s (writable_of_readOnly ht hro)

/-- Settles O24: the cycle is the host's, whose operation is the reset input. -/
theorem resetInputRestoresRegisters : Obligations.ResetInputRestoresRegisters := by
  intro s rest hp hops
  obtain ⟨p, hstep⟩ := step_of_not_due hp
  rw [hostCycle_cons (s := s.setPhase p) hops] at hstep
  exact ⟨_, hstep, rfl, rfl, resetInput_readReg _, resetInput_readByte _⟩

/-- Settles O23: the combinational registers read 0 because RESOLVED.VER is no supported version. -/
theorem resetLeavesTheStatedValues : Obligations.ResetLeavesTheStatedValues := by
  have hnone : State.reset.noVersion := .inl rfl
  obtain ⟨hsize, hndata, hntotal, hecpb, hnblocks⟩ :=
    (combinationalRegistersFollowTheTables State.reset).1 hnone
  exact ⟨rfl, rfl, by decide, rfl, rfl, by decide, rfl, by decide, rfl, rfl, rfl, hsize, hndata, hntotal,
    hecpb, hnblocks, by decide, by decide, rfl, rfl, fun _ => rfl⟩

/-- Settles O26: the state after reset differs from what the reset input leaves in the host's fields and the
BUF_INIT draw alone, which the invariant does not read. -/
theorem resetSatisfiesTheInvariant : Obligations.ResetSatisfiesTheInvariant :=
  State.reset.inv_resetInput

end Sys2Proof.Proofs
